-- ==== Sys2Proof/Word.lean ====
section
/-! DEFINITION. The block's values (spec/00_scope.md R6, R8; spec/10_state.md R26, R27). What the block slices, joins or
extends is a bit vector of the width the source fixes. What it only copies, compares or looks up (identifiers,
addresses, lengths, feature bits) is a natural number, because its width is a parameter (R6): that a value fits its
port is a premise of a call (`Machine.portsFit`). -/

namespace Sys2Proof

/-- One byte of the caller's span (R26: `buf[k]` is 8 bits). -/
abbrev Byte := BitVec 8

/-- The instruction word `W` (R6 `WORD_W = 32`, R21). -/
abbrev Word := BitVec 32

/-- The value of an immediate operand: a signed 64-bit number, held as its two's-complement pattern
(R6 `IMM_W = 64`, R27 `rec.op[j].val`). Its signed reading is `BitVec.toInt`. -/
abbrev Imm := BitVec 64

/-- A register field of the base encoding: a raw index of 5 bits (R71 b, R79). -/
abbrev RegIx := BitVec 5

end Sys2Proof
end

