-- ==== Sys2Proof/Config.lean ====
section
/-! DEFINITION. The parameters of the block (spec/00_scope.md R6): the constants that the source fixes, and the open
widths and limits as one record. The record is a field of the machine's state beside the parameters that are tables
(`TABLE`, `REGTAB`, `FEATURES`), so that every claim holds for every value of every parameter (R33). -/

namespace Sys2Proof

/-- The open widths and limits of R6. -/
structure Params where
  /-- `FEATURE_W`: width of `FEATURES`. -/
  featureW : Nat
  /-- `ADDR_W`: width of the `addr` input. -/
  addrW : Nat
  /-- `LEN_W`: width of the `len` input. -/
  lenW : Nat
  /-- `OPC_W`: width of an opcode identifier. -/
  opcW : Nat
  /-- `REG_W`: width of a register identifier. -/
  regW : Nat
  /-- `MAX_OPERANDS`: operand slots in the record. -/
  maxOperands : Nat
  /-- `DEPTH_MAX`: the largest number of branch nodes on a path from the root. -/
  depthMax : Nat
deriving DecidableEq, Repr

/-- The spec's defaults (R6). -/
def Params.defaults : Params where
  featureW := 64
  addrW := 64
  lenW := 64
  opcW := 16
  regW := 8
  maxOperands := 8
  depthMax := 8

namespace Config

/-- `INSN_BYTES`: bytes read and consumed per word (R6, R70; fixed by the source). -/
def insnBytes : Nat := 4

/-- `K[c]`: the element count of a register class, 32 for all three (R6, R133; fixed by the source). An `abbrev`,
since it is also the length of a class's table. -/
abbrev classSize : Nat := 32

/-- The one value of `FEATURES` that the spec gives a meaning to: every bit 1, all extensions enabled (R25). -/
def allFeatures (p : Params) : Nat := 2 ^ p.featureW - 1

end Config

end Sys2Proof
end

