-- ==== Sys2Proof/Syntax.lean ====
section
/-! DEFINITION. The data the block works on: the Decode Table's schema (spec/30_encoding.md R73, R74), the flat rows
of R76, and `Instr`, the leaves of the reference table REF with the raw fields a word supplies (R81). -/

namespace Sys2Proof

/-- A contiguous range `[hi:lo]` of bits of the instruction word (R8). -/
structure BitRange where
  hi : Nat
  lo : Nat
deriving DecidableEq, Repr

/-- The closed set of register classes (R6 `NCLASS = 3`; spec/10_state.md R23, R31). -/
inductive RegClass where
  | gpr
  | fpr32
  | fpr64
deriving DecidableEq, Repr

/-- The six resolvers an operand specification can name (R74). -/
inductive OperandKind where
  | gpr
  | fpr32
  | fpr64
  | uimm
  | simm
  | simmLsl1
deriving DecidableEq, Repr

/-- An operand specification `kind<N>[ranges]` (R74): the resolver, its width parameter `N`, and the ranges of the
word that supply the raw field, the most significant first. -/
structure OperandSpec where
  kind : OperandKind
  n : Nat
  ranges : List BitRange
deriving DecidableEq, Repr

/-- A leaf of a Decode Table: an opcode identifier (0 is reserved as INVALID) and the ordered operand specifications
(R73). -/
structure Leaf where
  opcode : Nat
  operands : List OperandSpec
deriving DecidableEq, Repr

/- A Decode Table is a finite tree (R73). -/
mutual
/-- A node of a Decode Table (R73). A value of a branch's selector that its children do not list goes to
`unmatched`. -/
inductive Node where
  | branch (sel : BitRange) (children : Children)
  | leaf (l : Leaf)
  | unmatched
deriving DecidableEq, Repr
/-- The list of (value, child) pairs of a branch (R73). -/
inductive Children where
  | nil
  | cons (value : Nat) (child : Node) (rest : Children)
deriving DecidableEq, Repr
end

/-- A row of a flat table (R76): `W` belongs to the row when `W & mask = pattern` (the spec writes `match`). -/
structure FlatRow where
  mask : Word
  pattern : Word
  leaf : Leaf
deriving DecidableEq, Repr

/-- The leaves of REF (R81), one constructor per row of `opcode_table.json`, the fields in the order of the record.
A register field is the raw index. An `imm` or `shamt` field is the raw field, and `raw` is the raw field of an
operand with an implicit low bit (its bits joined as R79 lists them): no resolver has been applied to any of them. -/
inductive Instr where
  /-- `LUI`, opcode identifier 1 (R200). -/
  | lui (rd : RegIx) (imm : BitVec 20)
  /-- `AUIPC`, opcode identifier 2 (R201). -/
  | auipc (rd : RegIx) (imm : BitVec 20)
  /-- `JAL`, opcode identifier 3 (R202). -/
  | jal (rd : RegIx) (raw : BitVec 20)
  /-- `JALR`, opcode identifier 4 (R203). -/
  | jalr (rd rs1 : RegIx) (imm : BitVec 12)
  /-- `BEQ`, opcode identifier 5 (R204). -/
  | beq (rs1 rs2 : RegIx) (raw : BitVec 12)
  /-- `BNE`, opcode identifier 6 (R205). -/
  | bne (rs1 rs2 : RegIx) (raw : BitVec 12)
  /-- `BLT`, opcode identifier 7 (R206). -/
  | blt (rs1 rs2 : RegIx) (raw : BitVec 12)
  /-- `BGE`, opcode identifier 8 (R207). -/
  | bge (rs1 rs2 : RegIx) (raw : BitVec 12)
  /-- `BLTU`, opcode identifier 9 (R208). -/
  | bltu (rs1 rs2 : RegIx) (raw : BitVec 12)
  /-- `BGEU`, opcode identifier 10 (R209). -/
  | bgeu (rs1 rs2 : RegIx) (raw : BitVec 12)
  /-- `LB`, opcode identifier 11 (R210). -/
  | lb (rd rs1 : RegIx) (imm : BitVec 12)
  /-- `LH`, opcode identifier 12 (R211). -/
  | lh (rd rs1 : RegIx) (imm : BitVec 12)
  /-- `LW`, opcode identifier 13 (R212). -/
  | lw (rd rs1 : RegIx) (imm : BitVec 12)
  /-- `LBU`, opcode identifier 14 (R213). -/
  | lbu (rd rs1 : RegIx) (imm : BitVec 12)
  /-- `LHU`, opcode identifier 15 (R214). -/
  | lhu (rd rs1 : RegIx) (imm : BitVec 12)
  /-- `SB`, opcode identifier 16 (R215). -/
  | sb (rs2 rs1 : RegIx) (imm : BitVec 12)
  /-- `SH`, opcode identifier 17 (R216). -/
  | sh (rs2 rs1 : RegIx) (imm : BitVec 12)
  /-- `SW`, opcode identifier 18 (R217). -/
  | sw (rs2 rs1 : RegIx) (imm : BitVec 12)
  /-- `ADDI`, opcode identifier 19 (R218). -/
  | addi (rd rs1 : RegIx) (imm : BitVec 12)
  /-- `SLTI`, opcode identifier 20 (R219). -/
  | slti (rd rs1 : RegIx) (imm : BitVec 12)
  /-- `SLTIU`, opcode identifier 21 (R220). -/
  | sltiu (rd rs1 : RegIx) (imm : BitVec 12)
  /-- `XORI`, opcode identifier 22 (R221). -/
  | xori (rd rs1 : RegIx) (imm : BitVec 12)
  /-- `ORI`, opcode identifier 23 (R222). -/
  | ori (rd rs1 : RegIx) (imm : BitVec 12)
  /-- `ANDI`, opcode identifier 24 (R223). -/
  | andi (rd rs1 : RegIx) (imm : BitVec 12)
  /-- `SLLI`, opcode identifier 25 (R224). -/
  | slli (rd rs1 : RegIx) (shamt : BitVec 5)
  /-- `SRLI`, opcode identifier 26 (R225). -/
  | srli (rd rs1 : RegIx) (shamt : BitVec 5)
  /-- `SRAI`, opcode identifier 27 (R226). -/
  | srai (rd rs1 : RegIx) (shamt : BitVec 5)
  /-- `ADD`, opcode identifier 28 (R227). -/
  | add (rd rs1 rs2 : RegIx)
  /-- `SUB`, opcode identifier 29 (R228). -/
  | sub (rd rs1 rs2 : RegIx)
  /-- `SLL`, opcode identifier 30 (R229). -/
  | sll (rd rs1 rs2 : RegIx)
  /-- `SLT`, opcode identifier 31 (R230). -/
  | slt (rd rs1 rs2 : RegIx)
  /-- `SLTU`, opcode identifier 32 (R231). -/
  | sltu (rd rs1 rs2 : RegIx)
  /-- `XOR`, opcode identifier 33 (R232). -/
  | xor (rd rs1 rs2 : RegIx)
  /-- `SRL`, opcode identifier 34 (R233). -/
  | srl (rd rs1 rs2 : RegIx)
  /-- `SRA`, opcode identifier 35 (R234). -/
  | sra (rd rs1 rs2 : RegIx)
  /-- `OR`, opcode identifier 36 (R235). -/
  | or (rd rs1 rs2 : RegIx)
  /-- `AND`, opcode identifier 37 (R236). -/
  | and (rd rs1 rs2 : RegIx)
  /-- `ECALL`, opcode identifier 38 (R237). -/
  | ecall
  /-- `EBREAK`, opcode identifier 39 (R238). -/
  | ebreak
  /-- `FLW`, opcode identifier 40 (R250). -/
  | flw (rd rs1 : RegIx) (imm : BitVec 12)
  /-- `FLD`, opcode identifier 41 (R251). -/
  | fld (rd rs1 : RegIx) (imm : BitVec 12)
  /-- `FSW`, opcode identifier 42 (R252). -/
  | fsw (rs2 rs1 : RegIx) (imm : BitVec 12)
  /-- `FSD`, opcode identifier 43 (R253). -/
  | fsd (rs2 rs1 : RegIx) (imm : BitVec 12)
  /-- `FSGNJ_S`, opcode identifier 44 (R254). -/
  | fsgnjS (rd rs1 rs2 : RegIx)
  /-- `FSGNJ_D`, opcode identifier 45 (R255). -/
  | fsgnjD (rd rs1 rs2 : RegIx)
  /-- `FMV_X_W`, opcode identifier 46 (R256). -/
  | fmvXW (rd rs1 : RegIx)
  /-- `FMV_W_X`, opcode identifier 47 (R257). -/
  | fmvWX (rd rs1 : RegIx)
deriving DecidableEq, Repr

end Sys2Proof
end

