-- ==== Sys2Proof/Machine/Fields.lean ====
section
/-! DEFINITION. The bit-field and byte-order primitives: `W[hi:lo]`, `field(W, ranges)` and `rw(ranges)`
(spec/30_encoding.md R72), and the little-endian assembly of a word (spec/40_bitfield_extractor.md R100). A raw field
is an unsigned integer (spec/00_scope.md R9), so it is a `Nat`. -/

namespace Sys2Proof

/-- The number of bits of a range, `hi - lo + 1` (R72). -/
def rangeWidth (r : BitRange) : Nat := r.hi - r.lo + 1

/-- `rw(ranges)`: the raw width of a field (R72). -/
def rawWidth : List BitRange → Nat
  | [] => 0
  | r :: rs => rangeWidth r + rawWidth rs

/-- `W[hi:lo] = (W >> lo) & (2^(hi-lo+1) - 1)` as an unsigned integer (R8, R72). -/
def slice (w : Word) (r : BitRange) : Nat := w.toNat / 2 ^ r.lo % 2 ^ rangeWidth r

/-- `field(W, ranges)`: the ranges joined, the first one most significant (R72; decision D7). -/
def field (w : Word) : List BitRange → Nat
  | [] => 0
  | r :: rs => slice w r * 2 ^ rawWidth rs + field w rs

/-- Byte 0 gives bits 7 to 0, byte 1 bits 15 to 8, byte 2 bits 23 to 16, byte 3 bits 31 to 24 (R51, R100). -/
def assemble (b0 b1 b2 b3 : Byte) : Word := b3 ++ b2 ++ b1 ++ b0

/-- Byte `k` of a word, `W[8k+7:8k]`: the inverse of the assembly (R104). -/
def byteOf (w : Word) (k : Nat) : Byte := BitVec.ofNat 8 (w.toNat / 2 ^ (8 * k))

/-- The four bytes of a word in buffer order. -/
def wordBytes (w : Word) : List Byte := [byteOf w 0, byteOf w 1, byteOf w 2, byteOf w 3]

end Sys2Proof
end

