-- ==== Sys2Proof/WellFormed.lean ====
section
/-! DEFINITION. Well-formedness of a Decode Table, WF1 to WF10 (spec/30_encoding.md R75). A table that fails a check is
refused as a whole: the block has no meaning for it. `MAX_OPERANDS`, `DEPTH_MAX` and `OPC_W` are parameters (R6). The
fields of an `Instr` carry their widths in their types, so every term of `Instr` is well formed and needs no check. -/

namespace Sys2Proof

/-- A range lies in the word: `31 >= hi >= lo >= 0` (R75 WF1, WF7). -/
def rangeOk (r : BitRange) : Bool := decide (r.lo ≤ r.hi) && decide (r.hi ≤ 31)

/-- Two ranges share no bit (R75 WF4). -/
def rangesDisjoint (a b : BitRange) : Bool := decide (a.hi < b.lo) || decide (b.hi < a.lo)

/-- The values of a branch's children, in list order. -/
def childValues : Children → List Nat
  | .nil => []
  | .cons v _ rest => v :: childValues rest

/-- WF1: the selector of a branch lies in the word. -/
def wf1Selector (sel : BitRange) : Bool := rangeOk sel

/-- WF2: the values of a branch's children are pairwise distinct and each fits the selector. -/
def wf2Values (sel : BitRange) (vs : List Nat) : Bool :=
  decide vs.Nodup && vs.all fun v => decide (v < 2 ^ rangeWidth sel)

/-- WF3: with the selectors `path` above it, one more branch node stays within `DEPTH_MAX`. -/
def wf3Depth (p : Params) (path : List BitRange) : Bool := decide (path.length < p.depthMax)

/-- WF4: the selector of a branch shares no bit with a selector above it. -/
def wf4Disjoint (path : List BitRange) (sel : BitRange) : Bool := path.all (rangesDisjoint sel)

/-- WF5: a leaf's opcode identifier is not 0, which is reserved as INVALID. -/
def wf5Opcode (l : Leaf) : Bool := decide (l.opcode ≠ 0)

/-- A leaf's opcode identifier is a value of `OPC_W` bits, which is what R27 makes of an `OpcodeId` of the schema (R6,
R73; decision D11). DEDUCED, log 1. -/
def opcodeFits (p : Params) (l : Leaf) : Bool := decide (l.opcode < 2 ^ p.opcW)

/-- WF6: a leaf has at most `MAX_OPERANDS` operands. -/
def wf6Count (p : Params) (l : Leaf) : Bool := decide (l.operands.length ≤ p.maxOperands)

/-- WF7: every range of an operand lies in the word, and the raw field has 1 to 32 bits. -/
def wf7Ranges (sp : OperandSpec) : Bool :=
  sp.ranges.all rangeOk && decide (1 ≤ rawWidth sp.ranges) && decide (rawWidth sp.ranges ≤ 32)

/-- WF8 (register kinds and `UImm`: `N = rw`), WF9 (`SImm`: `rw <= N <= 64`) and WF10 (`SImmLsl1`:
`rw + 1 <= N <= 64`). -/
def wf8to10Width (sp : OperandSpec) : Bool :=
  match sp.kind with
  | .gpr => decide (sp.n = rawWidth sp.ranges)
  | .fpr32 => decide (sp.n = rawWidth sp.ranges)
  | .fpr64 => decide (sp.n = rawWidth sp.ranges)
  | .uimm => decide (sp.n = rawWidth sp.ranges)
  | .simm => decide (rawWidth sp.ranges ≤ sp.n) && decide (sp.n ≤ 64)
  | .simmLsl1 => decide (rawWidth sp.ranges + 1 ≤ sp.n) && decide (sp.n ≤ 64)

/-- An operand specification meets WF7 to WF10. -/
def specOk (sp : OperandSpec) : Bool := wf7Ranges sp && wf8to10Width sp

/-- A leaf meets WF5 to WF10, and its opcode identifier has its width. -/
def leafOk (p : Params) (l : Leaf) : Bool := wf5Opcode l && opcodeFits p l && wf6Count p l && l.operands.all specOk

mutual
/-- Every branch and leaf below a node meets R75, where `path` lists the selectors of the branches above it. -/
def nodeOk (p : Params) (path : List BitRange) : Node → Bool
  | .unmatched => true
  | .leaf l => leafOk p l
  | .branch sel ch =>
    wf1Selector sel && wf2Values sel (childValues ch) && wf3Depth p path && wf4Disjoint path sel &&
      childrenOk p (sel :: path) ch
/-- Every child of a branch meets R75. -/
def childrenOk (p : Params) (path : List BitRange) : Children → Bool
  | .nil => true
  | .cons _ n rest => nodeOk p path n && childrenOk p path rest
end

/-- A Decode Table is well formed (R75); the root has no branch above it. -/
def tableOk (p : Params) (t : Node) : Bool := nodeOk p [] t

end Sys2Proof
end

