-- ==== Sys2Proof/Decode.lean ====
section
/-! DEFINITION. The Decode Engine (spec/41_decode_engine.md), the reference table REF (spec/30_encoding.md R79 to
R81), the flat view of a table and the most-specific rule (R76, R77), the decoder of REF's words into `Instr`, and
after it the encoder. -/

namespace Sys2Proof

/-! ## The walk (R110) -/

mutual
/-- `walk(node, W)`: the leaf the word reaches, or none for the unmatched terminal (R110). -/
def walk (w : Word) : Node → Option Leaf
  | .unmatched => none
  | .leaf l => some l
  | .branch sel ch => walkChildren w (slice w sel) ch
/-- The child a selector value picks, walked; a value with no listed child is unmatched (R73, R110). -/
def walkChildren (w : Word) (v : Nat) : Children → Option Leaf
  | .nil => none
  | .cons k n rest => if k = v then walk w n else walkChildren w v rest
end

mutual
/-- The number of branch nodes the walk of a word visits (R111). -/
def branchesVisited (w : Word) : Node → Nat
  | .unmatched => 0
  | .leaf _ => 0
  | .branch sel ch => 1 + branchesBelow w (slice w sel) ch
/-- The number of branch nodes visited below a branch whose selector has the value `v`. -/
def branchesBelow (w : Word) (v : Nat) : Children → Nat
  | .nil => 0
  | .cons k n rest => if k = v then branchesVisited w n else branchesBelow w v rest
end

/-! ## The flat view and the most-specific rule (R76, R77) -/

/-- `(2^(hi-lo+1) - 1) << lo`: the bits a selector tests (R76). -/
def rangeMask (r : BitRange) : Word := BitVec.ofNat 32 ((2 ^ rangeWidth r - 1) * 2 ^ r.lo)

/-- `v << lo`: a selector's value in its place (R76). -/
def rangePattern (r : BitRange) (v : Nat) : Word := BitVec.ofNat 32 (v * 2 ^ r.lo)

mutual
/-- The flat rows of the leaves below a node, where `mask` and `pattern` gather the path so far (R76). -/
def flatRowsFrom (mask pattern : Word) : Node → List FlatRow
  | .unmatched => []
  | .leaf l => [⟨mask, pattern, l⟩]
  | .branch sel ch => flatRowsOfChildren sel mask pattern ch
/-- The flat rows below the children of a branch on `sel` (R76). -/
def flatRowsOfChildren (sel : BitRange) (mask pattern : Word) : Children → List FlatRow
  | .nil => []
  | .cons v n rest =>
    flatRowsFrom (mask ||| rangeMask sel) (pattern ||| rangePattern sel v) n ++
      flatRowsOfChildren sel mask pattern rest
end

/-- The flat rows of a table, one for each leaf (R76); a root that is a leaf has mask and pattern 0. -/
def flatRows (t : Node) : List FlatRow := flatRowsFrom 0 0 t

/-- A word belongs to a row: `(W & mask) = match` (R76). -/
def rowMatches (w : Word) (r : FlatRow) : Bool := decide (w &&& r.mask = r.pattern)

/-- `popcount(m)`: the number of 1 bits (R9). -/
def popcount (m : Word) : Nat := ((List.range 32).filter fun i => m.getLsbD i).length

/-- `cand(P, W)`: the rows of a flat list that the word belongs to (R77). -/
def candidates (p : List FlatRow) (w : Word) : List FlatRow := p.filter (rowMatches w)

/-- Of two candidates the one that tests more bits; the earlier of equals, which only a refused list has (R77). -/
def moreSpecific (a b : FlatRow) : FlatRow := if popcount a.mask < popcount b.mask then b else a

/-- `select(P, W)`: the most specific candidate's leaf, or none for unmatched (R77). -/
def selectLeaf (p : List FlatRow) (w : Word) : Option Leaf :=
  match candidates p w with
  | [] => none
  | r :: rs => some (rs.foldl moreSpecific r).leaf

/-- Two rows tie on a word: both are candidates, and no candidate tests more bits than either (R77). -/
def tieAt (p : List FlatRow) (w : Word) : Bool :=
  (candidates p w).any fun a =>
    ((candidates p w).filter fun b => decide (popcount b.mask = popcount a.mask)).length > 1 &&
      (candidates p w).all fun c => decide (popcount c.mask ≤ popcount a.mask)

/-- A flat list is rejected at construction when some word has two candidates of equal greatest `popcount`
(R77). -/
def flatRejected (p : List FlatRow) : Prop := ∃ w : Word, tieAt p w = true

/-- A tree is a correct construction of a flat list that is not rejected: on every word its walk ends where `select`
says (R77). -/
def constructs (t : Node) (p : List FlatRow) : Prop :=
  ¬ flatRejected p ∧ ∀ w : Word, walk w t = selectLeaf p w

/-! ## The reference table REF: fields (R79), leaves (R81), tree (R80) -/

/-- The `rd` field, `W[11:7]` (R79). -/
def rdAt : List BitRange := [⟨11, 7⟩]

/-- The `rs1` field, `W[19:15]` (R79). -/
def rs1At : List BitRange := [⟨19, 15⟩]

/-- The `rs2` field, `W[24:20]` (R79). -/
def rs2At : List BitRange := [⟨24, 20⟩]

/-- The `shamt` field, `W[24:20]` (R79, format ISH). -/
def shamtAt : List BitRange := [⟨24, 20⟩]

/-- The immediate of format U, `W[31:12]` (R79). -/
def immUAt : List BitRange := [⟨31, 12⟩]

/-- The immediate of format I, `W[31:20]` (R79). -/
def immIAt : List BitRange := [⟨31, 20⟩]

/-- The immediate of format S, `W[31:25] ++ W[11:7]` (R79). -/
def immSAt : List BitRange := [⟨31, 25⟩, ⟨11, 7⟩]

/-- The immediate of format B, `W[31] ++ W[7] ++ W[30:25] ++ W[11:8]` (R79). -/
def immBAt : List BitRange := [⟨31, 31⟩, ⟨7, 7⟩, ⟨30, 25⟩, ⟨11, 8⟩]

/-- The immediate of format J, `W[31] ++ W[19:12] ++ W[20] ++ W[30:21]` (R79). -/
def immJAt : List BitRange := [⟨31, 31⟩, ⟨19, 12⟩, ⟨20, 20⟩, ⟨30, 21⟩]

/-- Leaf `LUI` (R200). -/
def leafLui : Leaf := ⟨1, [⟨.gpr, 5, rdAt⟩, ⟨.uimm, 20, immUAt⟩]⟩

/-- Leaf `AUIPC` (R201). -/
def leafAuipc : Leaf := ⟨2, [⟨.gpr, 5, rdAt⟩, ⟨.uimm, 20, immUAt⟩]⟩

/-- Leaf `JAL` (R202). -/
def leafJal : Leaf := ⟨3, [⟨.gpr, 5, rdAt⟩, ⟨.simmLsl1, 21, immJAt⟩]⟩

/-- Leaf `JALR` (R203). -/
def leafJalr : Leaf := ⟨4, [⟨.gpr, 5, rdAt⟩, ⟨.gpr, 5, rs1At⟩, ⟨.simm, 12, immIAt⟩]⟩

/-- Leaf `BEQ` (R204). -/
def leafBeq : Leaf := ⟨5, [⟨.gpr, 5, rs1At⟩, ⟨.gpr, 5, rs2At⟩, ⟨.simmLsl1, 13, immBAt⟩]⟩

/-- Leaf `BNE` (R205). -/
def leafBne : Leaf := ⟨6, [⟨.gpr, 5, rs1At⟩, ⟨.gpr, 5, rs2At⟩, ⟨.simmLsl1, 13, immBAt⟩]⟩

/-- Leaf `BLT` (R206). -/
def leafBlt : Leaf := ⟨7, [⟨.gpr, 5, rs1At⟩, ⟨.gpr, 5, rs2At⟩, ⟨.simmLsl1, 13, immBAt⟩]⟩

/-- Leaf `BGE` (R207). -/
def leafBge : Leaf := ⟨8, [⟨.gpr, 5, rs1At⟩, ⟨.gpr, 5, rs2At⟩, ⟨.simmLsl1, 13, immBAt⟩]⟩

/-- Leaf `BLTU` (R208). -/
def leafBltu : Leaf := ⟨9, [⟨.gpr, 5, rs1At⟩, ⟨.gpr, 5, rs2At⟩, ⟨.simmLsl1, 13, immBAt⟩]⟩

/-- Leaf `BGEU` (R209). -/
def leafBgeu : Leaf := ⟨10, [⟨.gpr, 5, rs1At⟩, ⟨.gpr, 5, rs2At⟩, ⟨.simmLsl1, 13, immBAt⟩]⟩

/-- Leaf `LB` (R210). -/
def leafLb : Leaf := ⟨11, [⟨.gpr, 5, rdAt⟩, ⟨.gpr, 5, rs1At⟩, ⟨.simm, 12, immIAt⟩]⟩

/-- Leaf `LH` (R211). -/
def leafLh : Leaf := ⟨12, [⟨.gpr, 5, rdAt⟩, ⟨.gpr, 5, rs1At⟩, ⟨.simm, 12, immIAt⟩]⟩

/-- Leaf `LW` (R212). -/
def leafLw : Leaf := ⟨13, [⟨.gpr, 5, rdAt⟩, ⟨.gpr, 5, rs1At⟩, ⟨.simm, 12, immIAt⟩]⟩

/-- Leaf `LBU` (R213). -/
def leafLbu : Leaf := ⟨14, [⟨.gpr, 5, rdAt⟩, ⟨.gpr, 5, rs1At⟩, ⟨.simm, 12, immIAt⟩]⟩

/-- Leaf `LHU` (R214). -/
def leafLhu : Leaf := ⟨15, [⟨.gpr, 5, rdAt⟩, ⟨.gpr, 5, rs1At⟩, ⟨.simm, 12, immIAt⟩]⟩

/-- Leaf `SB` (R215). -/
def leafSb : Leaf := ⟨16, [⟨.gpr, 5, rs2At⟩, ⟨.gpr, 5, rs1At⟩, ⟨.simm, 12, immSAt⟩]⟩

/-- Leaf `SH` (R216). -/
def leafSh : Leaf := ⟨17, [⟨.gpr, 5, rs2At⟩, ⟨.gpr, 5, rs1At⟩, ⟨.simm, 12, immSAt⟩]⟩

/-- Leaf `SW` (R217). -/
def leafSw : Leaf := ⟨18, [⟨.gpr, 5, rs2At⟩, ⟨.gpr, 5, rs1At⟩, ⟨.simm, 12, immSAt⟩]⟩

/-- Leaf `ADDI` (R218). -/
def leafAddi : Leaf := ⟨19, [⟨.gpr, 5, rdAt⟩, ⟨.gpr, 5, rs1At⟩, ⟨.simm, 12, immIAt⟩]⟩

/-- Leaf `SLTI` (R219). -/
def leafSlti : Leaf := ⟨20, [⟨.gpr, 5, rdAt⟩, ⟨.gpr, 5, rs1At⟩, ⟨.simm, 12, immIAt⟩]⟩

/-- Leaf `SLTIU` (R220). -/
def leafSltiu : Leaf := ⟨21, [⟨.gpr, 5, rdAt⟩, ⟨.gpr, 5, rs1At⟩, ⟨.simm, 12, immIAt⟩]⟩

/-- Leaf `XORI` (R221). -/
def leafXori : Leaf := ⟨22, [⟨.gpr, 5, rdAt⟩, ⟨.gpr, 5, rs1At⟩, ⟨.simm, 12, immIAt⟩]⟩

/-- Leaf `ORI` (R222). -/
def leafOri : Leaf := ⟨23, [⟨.gpr, 5, rdAt⟩, ⟨.gpr, 5, rs1At⟩, ⟨.simm, 12, immIAt⟩]⟩

/-- Leaf `ANDI` (R223). -/
def leafAndi : Leaf := ⟨24, [⟨.gpr, 5, rdAt⟩, ⟨.gpr, 5, rs1At⟩, ⟨.simm, 12, immIAt⟩]⟩

/-- Leaf `SLLI` (R224). -/
def leafSlli : Leaf := ⟨25, [⟨.gpr, 5, rdAt⟩, ⟨.gpr, 5, rs1At⟩, ⟨.uimm, 5, shamtAt⟩]⟩

/-- Leaf `SRLI` (R225). -/
def leafSrli : Leaf := ⟨26, [⟨.gpr, 5, rdAt⟩, ⟨.gpr, 5, rs1At⟩, ⟨.uimm, 5, shamtAt⟩]⟩

/-- Leaf `SRAI` (R226). -/
def leafSrai : Leaf := ⟨27, [⟨.gpr, 5, rdAt⟩, ⟨.gpr, 5, rs1At⟩, ⟨.uimm, 5, shamtAt⟩]⟩

/-- Leaf `ADD` (R227). -/
def leafAdd : Leaf := ⟨28, [⟨.gpr, 5, rdAt⟩, ⟨.gpr, 5, rs1At⟩, ⟨.gpr, 5, rs2At⟩]⟩

/-- Leaf `SUB` (R228). -/
def leafSub : Leaf := ⟨29, [⟨.gpr, 5, rdAt⟩, ⟨.gpr, 5, rs1At⟩, ⟨.gpr, 5, rs2At⟩]⟩

/-- Leaf `SLL` (R229). -/
def leafSll : Leaf := ⟨30, [⟨.gpr, 5, rdAt⟩, ⟨.gpr, 5, rs1At⟩, ⟨.gpr, 5, rs2At⟩]⟩

/-- Leaf `SLT` (R230). -/
def leafSlt : Leaf := ⟨31, [⟨.gpr, 5, rdAt⟩, ⟨.gpr, 5, rs1At⟩, ⟨.gpr, 5, rs2At⟩]⟩

/-- Leaf `SLTU` (R231). -/
def leafSltu : Leaf := ⟨32, [⟨.gpr, 5, rdAt⟩, ⟨.gpr, 5, rs1At⟩, ⟨.gpr, 5, rs2At⟩]⟩

/-- Leaf `XOR` (R232). -/
def leafXor : Leaf := ⟨33, [⟨.gpr, 5, rdAt⟩, ⟨.gpr, 5, rs1At⟩, ⟨.gpr, 5, rs2At⟩]⟩

/-- Leaf `SRL` (R233). -/
def leafSrl : Leaf := ⟨34, [⟨.gpr, 5, rdAt⟩, ⟨.gpr, 5, rs1At⟩, ⟨.gpr, 5, rs2At⟩]⟩

/-- Leaf `SRA` (R234). -/
def leafSra : Leaf := ⟨35, [⟨.gpr, 5, rdAt⟩, ⟨.gpr, 5, rs1At⟩, ⟨.gpr, 5, rs2At⟩]⟩

/-- Leaf `OR` (R235). -/
def leafOr : Leaf := ⟨36, [⟨.gpr, 5, rdAt⟩, ⟨.gpr, 5, rs1At⟩, ⟨.gpr, 5, rs2At⟩]⟩

/-- Leaf `AND` (R236). -/
def leafAnd : Leaf := ⟨37, [⟨.gpr, 5, rdAt⟩, ⟨.gpr, 5, rs1At⟩, ⟨.gpr, 5, rs2At⟩]⟩

/-- Leaf `ECALL` (R237). -/
def leafEcall : Leaf := ⟨38, []⟩

/-- Leaf `EBREAK` (R238). -/
def leafEbreak : Leaf := ⟨39, []⟩

/-- Leaf `FLW` (R250). -/
def leafFlw : Leaf := ⟨40, [⟨.fpr32, 5, rdAt⟩, ⟨.gpr, 5, rs1At⟩, ⟨.simm, 12, immIAt⟩]⟩

/-- Leaf `FLD` (R251). -/
def leafFld : Leaf := ⟨41, [⟨.fpr64, 5, rdAt⟩, ⟨.gpr, 5, rs1At⟩, ⟨.simm, 12, immIAt⟩]⟩

/-- Leaf `FSW` (R252). -/
def leafFsw : Leaf := ⟨42, [⟨.fpr32, 5, rs2At⟩, ⟨.gpr, 5, rs1At⟩, ⟨.simm, 12, immSAt⟩]⟩

/-- Leaf `FSD` (R253). -/
def leafFsd : Leaf := ⟨43, [⟨.fpr64, 5, rs2At⟩, ⟨.gpr, 5, rs1At⟩, ⟨.simm, 12, immSAt⟩]⟩

/-- Leaf `FSGNJ_S` (R254). -/
def leafFsgnjS : Leaf := ⟨44, [⟨.fpr32, 5, rdAt⟩, ⟨.fpr32, 5, rs1At⟩, ⟨.fpr32, 5, rs2At⟩]⟩

/-- Leaf `FSGNJ_D` (R255). -/
def leafFsgnjD : Leaf := ⟨45, [⟨.fpr64, 5, rdAt⟩, ⟨.fpr64, 5, rs1At⟩, ⟨.fpr64, 5, rs2At⟩]⟩

/-- Leaf `FMV_X_W` (R256). -/
def leafFmvXW : Leaf := ⟨46, [⟨.gpr, 5, rdAt⟩, ⟨.fpr32, 5, rs1At⟩]⟩

/-- Leaf `FMV_W_X` (R257). -/
def leafFmvWX : Leaf := ⟨47, [⟨.fpr32, 5, rdAt⟩, ⟨.gpr, 5, rs1At⟩]⟩

/-- The children of a branch from a list of (value, child) pairs. -/
def childrenOf : List (Nat × Node) → Children
  | [] => .nil
  | (v, n) :: rest => .cons v n (childrenOf rest)

/-- A branch on `W[6:0]`, the opcode field (R79, R80). -/
def onOpcode (rows : List (Nat × Node)) : Node := .branch ⟨6, 0⟩ (childrenOf rows)

/-- A branch on `W[14:12]`, funct3 (R79, R80). -/
def onFunct3 (rows : List (Nat × Node)) : Node := .branch ⟨14, 12⟩ (childrenOf rows)

/-- A branch on `W[31:25]`, funct7 (R79, R80). -/
def onFunct7 (rows : List (Nat × Node)) : Node := .branch ⟨31, 25⟩ (childrenOf rows)

/-- A branch on `W[24:20]`, the fixed field of format R2 (R79, R80). -/
def onRs2 (rows : List (Nat × Node)) : Node := .branch ⟨24, 20⟩ (childrenOf rows)

/-- A branch on `W[31:7]`, the fixed bits of format SYS (R79, R80). -/
def onUpper (rows : List (Nat × Node)) : Node := .branch ⟨31, 7⟩ (childrenOf rows)

/-- REF, the reference Decode Table (R80). -/
def ref : Node := onOpcode
  [(0x03, onFunct3 [(0, .leaf leafLb), (1, .leaf leafLh), (2, .leaf leafLw), (4, .leaf leafLbu), (5, .leaf leafLhu)]),
   (0x07, onFunct3 [(2, .leaf leafFlw), (3, .leaf leafFld)]),
   (0x13, onFunct3
     [(0, .leaf leafAddi),
      (1, onFunct7 [(0x00, .leaf leafSlli)]),
      (2, .leaf leafSlti),
      (3, .leaf leafSltiu),
      (4, .leaf leafXori),
      (5, onFunct7 [(0x00, .leaf leafSrli), (0x20, .leaf leafSrai)]),
      (6, .leaf leafOri),
      (7, .leaf leafAndi)]),
   (0x17, .leaf leafAuipc),
   (0x23, onFunct3 [(0, .leaf leafSb), (1, .leaf leafSh), (2, .leaf leafSw)]),
   (0x27, onFunct3 [(2, .leaf leafFsw), (3, .leaf leafFsd)]),
   (0x33, onFunct3
     [(0, onFunct7 [(0x00, .leaf leafAdd), (0x20, .leaf leafSub)]),
      (1, onFunct7 [(0x00, .leaf leafSll)]),
      (2, onFunct7 [(0x00, .leaf leafSlt)]),
      (3, onFunct7 [(0x00, .leaf leafSltu)]),
      (4, onFunct7 [(0x00, .leaf leafXor)]),
      (5, onFunct7 [(0x00, .leaf leafSrl), (0x20, .leaf leafSra)]),
      (6, onFunct7 [(0x00, .leaf leafOr)]),
      (7, onFunct7 [(0x00, .leaf leafAnd)])]),
   (0x37, .leaf leafLui),
   (0x53, onFunct7
     [(0x10, onFunct3 [(0, .leaf leafFsgnjS)]),
      (0x11, onFunct3 [(0, .leaf leafFsgnjD)]),
      (0x70, onRs2 [(0, onFunct3 [(0, .leaf leafFmvXW)])]),
      (0x78, onRs2 [(0, onFunct3 [(0, .leaf leafFmvWX)])])]),
   (0x63, onFunct3
     [(0, .leaf leafBeq), (1, .leaf leafBne), (4, .leaf leafBlt), (5, .leaf leafBge), (6, .leaf leafBltu),
      (7, .leaf leafBgeu)]),
   (0x67, onFunct3 [(0, .leaf leafJalr)]),
   (0x6F, .leaf leafJal),
   (0x73, onUpper [(0, .leaf leafEcall), (0x2000, .leaf leafEbreak)])]

/-! ## The decoder -/

/-- The leaf of REF that an instruction stands for (R81). -/
def leafOf : Instr → Leaf
  | .lui _ _ => leafLui
  | .auipc _ _ => leafAuipc
  | .jal _ _ => leafJal
  | .jalr _ _ _ => leafJalr
  | .beq _ _ _ => leafBeq
  | .bne _ _ _ => leafBne
  | .blt _ _ _ => leafBlt
  | .bge _ _ _ => leafBge
  | .bltu _ _ _ => leafBltu
  | .bgeu _ _ _ => leafBgeu
  | .lb _ _ _ => leafLb
  | .lh _ _ _ => leafLh
  | .lw _ _ _ => leafLw
  | .lbu _ _ _ => leafLbu
  | .lhu _ _ _ => leafLhu
  | .sb _ _ _ => leafSb
  | .sh _ _ _ => leafSh
  | .sw _ _ _ => leafSw
  | .addi _ _ _ => leafAddi
  | .slti _ _ _ => leafSlti
  | .sltiu _ _ _ => leafSltiu
  | .xori _ _ _ => leafXori
  | .ori _ _ _ => leafOri
  | .andi _ _ _ => leafAndi
  | .slli _ _ _ => leafSlli
  | .srli _ _ _ => leafSrli
  | .srai _ _ _ => leafSrai
  | .add _ _ _ => leafAdd
  | .sub _ _ _ => leafSub
  | .sll _ _ _ => leafSll
  | .slt _ _ _ => leafSlt
  | .sltu _ _ _ => leafSltu
  | .xor _ _ _ => leafXor
  | .srl _ _ _ => leafSrl
  | .sra _ _ _ => leafSra
  | .or _ _ _ => leafOr
  | .and _ _ _ => leafAnd
  | .ecall => leafEcall
  | .ebreak => leafEbreak
  | .flw _ _ _ => leafFlw
  | .fld _ _ _ => leafFld
  | .fsw _ _ _ => leafFsw
  | .fsd _ _ _ => leafFsd
  | .fsgnjS _ _ _ => leafFsgnjS
  | .fsgnjD _ _ _ => leafFsgnjD
  | .fmvXW _ _ => leafFmvXW
  | .fmvWX _ _ => leafFmvWX

/-- A raw field of the word at the width its place in `Instr` has (R115). -/
def fieldBits (n : Nat) (w : Word) (ranges : List BitRange) : BitVec n := BitVec.ofNat n (field w ranges)

/-- The instruction with a given opcode identifier, its raw fields taken from the word (R81, R115). -/
def readInstr (opcode : Nat) (w : Word) : Option Instr :=
  match opcode with
  | 1 => some (.lui (fieldBits 5 w rdAt) (fieldBits 20 w immUAt))
  | 2 => some (.auipc (fieldBits 5 w rdAt) (fieldBits 20 w immUAt))
  | 3 => some (.jal (fieldBits 5 w rdAt) (fieldBits 20 w immJAt))
  | 4 => some (.jalr (fieldBits 5 w rdAt) (fieldBits 5 w rs1At) (fieldBits 12 w immIAt))
  | 5 => some (.beq (fieldBits 5 w rs1At) (fieldBits 5 w rs2At) (fieldBits 12 w immBAt))
  | 6 => some (.bne (fieldBits 5 w rs1At) (fieldBits 5 w rs2At) (fieldBits 12 w immBAt))
  | 7 => some (.blt (fieldBits 5 w rs1At) (fieldBits 5 w rs2At) (fieldBits 12 w immBAt))
  | 8 => some (.bge (fieldBits 5 w rs1At) (fieldBits 5 w rs2At) (fieldBits 12 w immBAt))
  | 9 => some (.bltu (fieldBits 5 w rs1At) (fieldBits 5 w rs2At) (fieldBits 12 w immBAt))
  | 10 => some (.bgeu (fieldBits 5 w rs1At) (fieldBits 5 w rs2At) (fieldBits 12 w immBAt))
  | 11 => some (.lb (fieldBits 5 w rdAt) (fieldBits 5 w rs1At) (fieldBits 12 w immIAt))
  | 12 => some (.lh (fieldBits 5 w rdAt) (fieldBits 5 w rs1At) (fieldBits 12 w immIAt))
  | 13 => some (.lw (fieldBits 5 w rdAt) (fieldBits 5 w rs1At) (fieldBits 12 w immIAt))
  | 14 => some (.lbu (fieldBits 5 w rdAt) (fieldBits 5 w rs1At) (fieldBits 12 w immIAt))
  | 15 => some (.lhu (fieldBits 5 w rdAt) (fieldBits 5 w rs1At) (fieldBits 12 w immIAt))
  | 16 => some (.sb (fieldBits 5 w rs2At) (fieldBits 5 w rs1At) (fieldBits 12 w immSAt))
  | 17 => some (.sh (fieldBits 5 w rs2At) (fieldBits 5 w rs1At) (fieldBits 12 w immSAt))
  | 18 => some (.sw (fieldBits 5 w rs2At) (fieldBits 5 w rs1At) (fieldBits 12 w immSAt))
  | 19 => some (.addi (fieldBits 5 w rdAt) (fieldBits 5 w rs1At) (fieldBits 12 w immIAt))
  | 20 => some (.slti (fieldBits 5 w rdAt) (fieldBits 5 w rs1At) (fieldBits 12 w immIAt))
  | 21 => some (.sltiu (fieldBits 5 w rdAt) (fieldBits 5 w rs1At) (fieldBits 12 w immIAt))
  | 22 => some (.xori (fieldBits 5 w rdAt) (fieldBits 5 w rs1At) (fieldBits 12 w immIAt))
  | 23 => some (.ori (fieldBits 5 w rdAt) (fieldBits 5 w rs1At) (fieldBits 12 w immIAt))
  | 24 => some (.andi (fieldBits 5 w rdAt) (fieldBits 5 w rs1At) (fieldBits 12 w immIAt))
  | 25 => some (.slli (fieldBits 5 w rdAt) (fieldBits 5 w rs1At) (fieldBits 5 w shamtAt))
  | 26 => some (.srli (fieldBits 5 w rdAt) (fieldBits 5 w rs1At) (fieldBits 5 w shamtAt))
  | 27 => some (.srai (fieldBits 5 w rdAt) (fieldBits 5 w rs1At) (fieldBits 5 w shamtAt))
  | 28 => some (.add (fieldBits 5 w rdAt) (fieldBits 5 w rs1At) (fieldBits 5 w rs2At))
  | 29 => some (.sub (fieldBits 5 w rdAt) (fieldBits 5 w rs1At) (fieldBits 5 w rs2At))
  | 30 => some (.sll (fieldBits 5 w rdAt) (fieldBits 5 w rs1At) (fieldBits 5 w rs2At))
  | 31 => some (.slt (fieldBits 5 w rdAt) (fieldBits 5 w rs1At) (fieldBits 5 w rs2At))
  | 32 => some (.sltu (fieldBits 5 w rdAt) (fieldBits 5 w rs1At) (fieldBits 5 w rs2At))
  | 33 => some (.xor (fieldBits 5 w rdAt) (fieldBits 5 w rs1At) (fieldBits 5 w rs2At))
  | 34 => some (.srl (fieldBits 5 w rdAt) (fieldBits 5 w rs1At) (fieldBits 5 w rs2At))
  | 35 => some (.sra (fieldBits 5 w rdAt) (fieldBits 5 w rs1At) (fieldBits 5 w rs2At))
  | 36 => some (.or (fieldBits 5 w rdAt) (fieldBits 5 w rs1At) (fieldBits 5 w rs2At))
  | 37 => some (.and (fieldBits 5 w rdAt) (fieldBits 5 w rs1At) (fieldBits 5 w rs2At))
  | 38 => some .ecall
  | 39 => some .ebreak
  | 40 => some (.flw (fieldBits 5 w rdAt) (fieldBits 5 w rs1At) (fieldBits 12 w immIAt))
  | 41 => some (.fld (fieldBits 5 w rdAt) (fieldBits 5 w rs1At) (fieldBits 12 w immIAt))
  | 42 => some (.fsw (fieldBits 5 w rs2At) (fieldBits 5 w rs1At) (fieldBits 12 w immSAt))
  | 43 => some (.fsd (fieldBits 5 w rs2At) (fieldBits 5 w rs1At) (fieldBits 12 w immSAt))
  | 44 => some (.fsgnjS (fieldBits 5 w rdAt) (fieldBits 5 w rs1At) (fieldBits 5 w rs2At))
  | 45 => some (.fsgnjD (fieldBits 5 w rdAt) (fieldBits 5 w rs1At) (fieldBits 5 w rs2At))
  | 46 => some (.fmvXW (fieldBits 5 w rdAt) (fieldBits 5 w rs1At))
  | 47 => some (.fmvWX (fieldBits 5 w rdAt) (fieldBits 5 w rs1At))
  | _ => none

/-- The instruction that a matched leaf stands for, none when the leaf is not one of REF's: another table may use the
same opcode identifier for another operand list. -/
def instrOf (l : Leaf) (w : Word) : Option Instr :=
  match readInstr l.opcode w with
  | some i => if leafOf i = l then some i else none
  | none => none

/-- Why the decoder gives no instruction. -/
inductive DecodeError where
  /-- Fewer than 4 bytes (R101). -/
  | insufficientInput
  /-- The word reaches no leaf of REF (R82). -/
  | unrecognizedEncoding
deriving DecidableEq, Repr

/-- The instruction that a word stands for under REF. -/
def decodeWord (w : Word) : Except DecodeError Instr :=
  match walk w ref with
  | none => .error .unrecognizedEncoding
  | some l =>
    match instrOf l w with
    | some i => .ok i
    | none => .error .unrecognizedEncoding

/-- The instruction that the first four bytes stand for under REF; further bytes are not read (R26, R101). -/
def decode : List Byte → Except DecodeError Instr
  | b0 :: b1 :: b2 :: b3 :: _ => decodeWord (assemble b0 b1 b2 b3)
  | _ => .error .insufficientInput

/-- The word that `nbits` bits of `w` make, the bits above them 0. -/
def tableWord (nbits w : Nat) : Word := BitVec.ofNat 32 (w % 2 ^ nbits)

/-- The instruction that the decoder reads from the low `nbits` bits of `w`, every bit above them 0: the bytes are
laid out little-endian, as the block reads them (R51). -/
def decodeTableWord (nbits w : Nat) : Option Instr :=
  match decode (wordBytes (tableWord nbits w)) with
  | .ok i => some i
  | .error _ => none

/-! ## The encoder, from the formats of R79 and the encoding strings of R81 -/

/-- Formats R, R2 and ISH: `funct7 rs2 rs1 funct3 rd opcode` (R79). -/
def encR (f7 : BitVec 7) (f3 : BitVec 3) (op : BitVec 7) (rs2 rs1 rd : RegIx) : Word :=
  f7 ++ rs2 ++ rs1 ++ f3 ++ rd ++ op

/-- Format I: `imm[11:0] rs1 funct3 rd opcode` (R79). -/
def encI (f3 : BitVec 3) (op : BitVec 7) (imm : BitVec 12) (rs1 rd : RegIx) : Word :=
  imm ++ rs1 ++ f3 ++ rd ++ op

/-- Format S: `imm[11:5] rs2 rs1 funct3 imm[4:0] opcode` (R79). -/
def encS (f3 : BitVec 3) (op : BitVec 7) (imm : BitVec 12) (rs2 rs1 : RegIx) : Word :=
  imm.extractLsb 11 5 ++ rs2 ++ rs1 ++ f3 ++ imm.extractLsb 4 0 ++ op

/-- Format B: `imm[12] imm[10:5] rs2 rs1 funct3 imm[4:1] imm[11] opcode`, where raw bit `j` is offset bit `j + 1`
(R79). -/
def encB (f3 : BitVec 3) (op : BitVec 7) (raw : BitVec 12) (rs2 rs1 : RegIx) : Word :=
  raw.extractLsb 11 11 ++ raw.extractLsb 9 4 ++ rs2 ++ rs1 ++ f3 ++ raw.extractLsb 3 0 ++ raw.extractLsb 10 10 ++ op

/-- Format U: `raw[19:0] rd opcode` (R79). -/
def encU (op : BitVec 7) (raw : BitVec 20) (rd : RegIx) : Word := raw ++ rd ++ op

/-- Format J: `imm[20] imm[10:1] imm[11] imm[19:12] rd opcode`, where raw bit `j` is offset bit `j + 1` (R79). -/
def encJ (op : BitVec 7) (raw : BitVec 20) (rd : RegIx) : Word :=
  raw.extractLsb 19 19 ++ raw.extractLsb 9 0 ++ raw.extractLsb 10 10 ++ raw.extractLsb 18 11 ++ rd ++ op

/-- The word of an instruction. -/
def encode : Instr → Word
  | .lui rd imm => encU 0x37 imm rd
  | .auipc rd imm => encU 0x17 imm rd
  | .jal rd raw => encJ 0x6F raw rd
  | .jalr rd rs1 imm => encI 0 0x67 imm rs1 rd
  | .beq rs1 rs2 raw => encB 0 0x63 raw rs2 rs1
  | .bne rs1 rs2 raw => encB 1 0x63 raw rs2 rs1
  | .blt rs1 rs2 raw => encB 4 0x63 raw rs2 rs1
  | .bge rs1 rs2 raw => encB 5 0x63 raw rs2 rs1
  | .bltu rs1 rs2 raw => encB 6 0x63 raw rs2 rs1
  | .bgeu rs1 rs2 raw => encB 7 0x63 raw rs2 rs1
  | .lb rd rs1 imm => encI 0 0x03 imm rs1 rd
  | .lh rd rs1 imm => encI 1 0x03 imm rs1 rd
  | .lw rd rs1 imm => encI 2 0x03 imm rs1 rd
  | .lbu rd rs1 imm => encI 4 0x03 imm rs1 rd
  | .lhu rd rs1 imm => encI 5 0x03 imm rs1 rd
  | .sb rs2 rs1 imm => encS 0 0x23 imm rs2 rs1
  | .sh rs2 rs1 imm => encS 1 0x23 imm rs2 rs1
  | .sw rs2 rs1 imm => encS 2 0x23 imm rs2 rs1
  | .addi rd rs1 imm => encI 0 0x13 imm rs1 rd
  | .slti rd rs1 imm => encI 2 0x13 imm rs1 rd
  | .sltiu rd rs1 imm => encI 3 0x13 imm rs1 rd
  | .xori rd rs1 imm => encI 4 0x13 imm rs1 rd
  | .ori rd rs1 imm => encI 6 0x13 imm rs1 rd
  | .andi rd rs1 imm => encI 7 0x13 imm rs1 rd
  | .slli rd rs1 shamt => encR 0x00 1 0x13 shamt rs1 rd
  | .srli rd rs1 shamt => encR 0x00 5 0x13 shamt rs1 rd
  | .srai rd rs1 shamt => encR 0x20 5 0x13 shamt rs1 rd
  | .add rd rs1 rs2 => encR 0x00 0 0x33 rs2 rs1 rd
  | .sub rd rs1 rs2 => encR 0x20 0 0x33 rs2 rs1 rd
  | .sll rd rs1 rs2 => encR 0x00 1 0x33 rs2 rs1 rd
  | .slt rd rs1 rs2 => encR 0x00 2 0x33 rs2 rs1 rd
  | .sltu rd rs1 rs2 => encR 0x00 3 0x33 rs2 rs1 rd
  | .xor rd rs1 rs2 => encR 0x00 4 0x33 rs2 rs1 rd
  | .srl rd rs1 rs2 => encR 0x00 5 0x33 rs2 rs1 rd
  | .sra rd rs1 rs2 => encR 0x20 5 0x33 rs2 rs1 rd
  | .or rd rs1 rs2 => encR 0x00 6 0x33 rs2 rs1 rd
  | .and rd rs1 rs2 => encR 0x00 7 0x33 rs2 rs1 rd
  | .ecall => 0x00000073#32
  | .ebreak => 0x00100073#32
  | .flw rd rs1 imm => encI 2 0x07 imm rs1 rd
  | .fld rd rs1 imm => encI 3 0x07 imm rs1 rd
  | .fsw rs2 rs1 imm => encS 2 0x27 imm rs2 rs1
  | .fsd rs2 rs1 imm => encS 3 0x27 imm rs2 rs1
  | .fsgnjS rd rs1 rs2 => encR 0x10 0 0x53 rs2 rs1 rd
  | .fsgnjD rd rs1 rs2 => encR 0x11 0 0x53 rs2 rs1 rd
  | .fmvXW rd rs1 => encR 0x70 0 0x53 0 rs1 rd
  | .fmvWX rd rs1 => encR 0x78 0 0x53 0 rs1 rd

/-- The four bytes of an instruction in buffer order (R51). -/
def encodeBytes (i : Instr) : List Byte := wordBytes (encode i)

end Sys2Proof
end

