-- ==== Sys2Proof/Machine/State.lean ====
section
/-! DEFINITION. The state of the machine: the three read-only configuration inputs, the ports of a call and the result
of the last call (spec/10_state.md), its reset value (R32), and the reasons a step can stop. The block itself keeps
nothing between calls (R20): the fields of `State` are what is presented to it and what it last drove. -/

namespace Sys2Proof.Machine

/-- The register-class tables `REGTAB[c][i]` (spec/10_state.md R23, R24, R31): per class an indexed array of 32
canonical register identifiers, each of `REG_W` bits. -/
structure RegTab where
  gpr : Vector Nat Config.classSize
  fpr32 : Vector Nat Config.classSize
  fpr64 : Vector Nat Config.classSize
deriving DecidableEq, Repr

/-- The reference numbering (R24): GPR `i` is `1 + i`, FPR32 `i` is `33 + i`, FPR64 `i` is `65 + i`. -/
def RegTab.reference : RegTab where
  gpr := #v[1, 2, 3, 4, 5, 6, 7, 8, 9, 10, 11, 12, 13, 14, 15, 16,
    17, 18, 19, 20, 21, 22, 23, 24, 25, 26, 27, 28, 29, 30, 31, 32]
  fpr32 := #v[33, 34, 35, 36, 37, 38, 39, 40, 41, 42, 43, 44, 45, 46, 47, 48,
    49, 50, 51, 52, 53, 54, 55, 56, 57, 58, 59, 60, 61, 62, 63, 64]
  fpr64 := #v[65, 66, 67, 68, 69, 70, 71, 72, 73, 74, 75, 76, 77, 78, 79, 80,
    81, 82, 83, 84, 85, 86, 87, 88, 89, 90, 91, 92, 93, 94, 95, 96]

/-- The caller's byte span (spec/20_memory.md R50 a): the bytes that exist, each with its index in the span, the
indices strictly rising. An index that is not listed holds no byte. -/
abbrev Memory := List Host.Cell

/-- A typed operand of a record: a register identifier of `REG_W` bits or a signed 64-bit immediate (R27). -/
inductive Operand where
  | reg (id : Nat)
  | imm (v : Imm)
deriving DecidableEq, Repr

/-- The instruction record of a successful call (R27): opcode identifier of `OPC_W` bits, ordered operands, consumed
byte size and source address of `ADDR_W` bits. `rec.nops` is the length of the list. -/
structure Record where
  opcode : Nat
  operands : List Operand
  size : BitVec 3
  addr : Nat
deriving DecidableEq, Repr

/-- The four statuses a call can end with (spec/60_exceptions.md R300). -/
inductive Status where
  | success
  | insufficientInput
  | unrecognizedEncoding
  | invalidOperand
deriving DecidableEq, Repr

/-- The result of a call (R27): status, consumed size and, on success only, the record. -/
structure Result where
  status : Status
  consumed : BitVec 3
  record : Option Record
deriving DecidableEq, Repr

/-- The machine. `params` holds the open widths and limits (R6, R33); `table`, `regtab` and `features` (`FEATURE_W`
bits) are the read-only configuration (R22 to R25, R31); `span`, `len` (`LEN_W` bits, unsigned) and `addr` (`ADDR_W`
bits, unsigned) are the inputs of the call (R26); `result` is the output of the last call (R27), none before the first
(R32). -/
structure State where
  params : Params
  table : Node
  regtab : RegTab
  features : Nat
  span : Memory
  len : Nat
  addr : Nat
  result : Option Result
deriving DecidableEq, Repr

/-- Why a call stops without a result although its configuration has a meaning. -/
inductive Fault where
  /-- `BufRead(k)` of a byte that the caller's span does not hold. Raised by the fetch; a call refuses a length that
  its span does not reach before it fetches (`lengthBeyondSpan`), so no call ends with this fault (R309). Safe. -/
  | spanByteAbsent
deriving DecidableEq, Repr

/-- Why the machine has no meaning for a call. -/
inductive Refusal where
  /-- An instruction without a meaning in the model. Raised by no arm: every instruction has its meaning. Safe. -/
  | notModelled (mnemonic : String)
  /-- `FEATURES` is not all ones: the spec gives the block a meaning only for that value (R25). Raised by the call
  before anything else. Safe. -/
  | featuresNotAllOnes
  /-- `len`, `addr` or an entry of `REGTAB` is a number that its port has no bits for (R26): no caller can present it.
  Raised by the call before any byte is read. Safe. -/
  | valueWiderThanPort
  /-- `TABLE` is not well formed: the spec refuses such a table as a whole (R75). Raised by the call before any byte
  is read. Safe. -/
  | illFormedTable
  /-- The span does not hold all of bytes `0` to `len - 1`: the caller breaks its obligation of a truthful length, which
  takes the call outside the spec (R343 b; spec/93_implementation_defined.md I13, `refuse`). Raised by the call before
  any byte is read. Safe. -/
  | lengthBeyondSpan
deriving DecidableEq, Repr

/-- The machine after reset (R32): the parameters at the spec's defaults (R6; DESIGN CHOICE, log 1), the tables at the
spec's reference contents, `FEATURES` all ones, no result. The input ports are the caller's and the spec gives them no
value: an empty span, length 0, address 0 (DESIGN CHOICE, log 3). -/
def State.reset : State where
  params := Params.defaults
  table := ref
  regtab := RegTab.reference
  features := Config.allFeatures Params.defaults
  span := []
  len := 0
  addr := 0
  result := none

end Sys2Proof.Machine
end

