-- ==== Sys2Proof/Machine/Flags.lean ====
section
/-! DEFINITION. The block has no flags (spec/10_state.md R29): what classifies a call is its status. This file holds
the status codes and the consumed size that goes with each status (spec/60_exceptions.md R300). -/

namespace Sys2Proof.Machine

/-- The 2-bit code of a status (R300; decision D5). -/
def statusCode : Status → BitVec 2
  | .success => 0
  | .insufficientInput => 1
  | .unrecognizedEncoding => 2
  | .invalidOperand => 3

/-- The consumed size a call reports with a status: 0 for InsufficientInput, 4 for the other three (R152, R300). -/
def consumedFor : Status → BitVec 3
  | .success => 4
  | .insufficientInput => 0
  | .unrecognizedEncoding => 4
  | .invalidOperand => 4

end Sys2Proof.Machine
end

