-- ==== Sys2Proof/Machine/Operands.lean ====
section
/-! DEFINITION. The operand resolvers: three register-class lookups (spec/42_register_resolvers.md) and three
immediate kinds (spec/43_immediate_resolvers.md). A resolver answers none when it rejects its raw field, which only a
register resolver does. -/

namespace Sys2Proof.Machine

/-- The array of a register class (R23, R31). -/
def classTable (t : RegTab) : RegClass → Vector Nat Config.classSize
  | .gpr => t.gpr
  | .fpr32 => t.fpr32
  | .fpr64 => t.fpr64

/-- The bound check and lookup common to the register resolvers: the raw index is compared with the number of
elements, and a rejected index reads nothing (R133, R134). -/
def lookupReg (t : RegTab) (c : RegClass) (raw : Nat) : Option Operand :=
  if h : raw < Config.classSize then some (.reg ((classTable t c)[raw]'h)) else none

/-- The GPR resolver (R130). -/
def resolveGpr (t : RegTab) (raw : Nat) : Option Operand := lookupReg t .gpr raw

/-- The FPR32 resolver (R131). -/
def resolveFpr32 (t : RegTab) (raw : Nat) : Option Operand := lookupReg t .fpr32 raw

/-- The FPR64 resolver (R132). -/
def resolveFpr64 (t : RegTab) (raw : Nat) : Option Operand := lookupReg t .fpr64 raw

/-- `sext_N(v)`: the low `N` bits of `v` as a two's-complement number, at 64 bits (R9). -/
def sext (n v : Nat) : Imm :=
  if v.testBit (n - 1) then BitVec.ofInt 64 ((v % 2 ^ n : Nat) - (2 ^ n : Nat)) else BitVec.ofNat 64 (v % 2 ^ n)

/-- The UImm resolver: the raw field verbatim, zero-extended (R140). -/
def resolveUimm (raw : Nat) : Option Operand := some (.imm (BitVec.ofNat 64 raw))

/-- The SImm resolver: sign extension from `N` bits (R141). -/
def resolveSimm (n raw : Nat) : Option Operand := some (.imm (sext n raw))

/-- The SImmLsl1 resolver: one left shift, then sign extension from `N` bits, `N` the width of the shifted value
(R142). -/
def resolveSimmLsl1 (n raw : Nat) : Option Operand := some (.imm (sext n (2 * raw)))

/-- The resolver that a tag names, on a raw field (R74, R154 stage 3). -/
def resolveKind (t : RegTab) (k : OperandKind) (n raw : Nat) : Option Operand :=
  match k with
  | .gpr => resolveGpr t raw
  | .fpr32 => resolveFpr32 t raw
  | .fpr64 => resolveFpr64 t raw
  | .uimm => resolveUimm raw
  | .simm => resolveSimm n raw
  | .simmLsl1 => resolveSimmLsl1 n raw

/-- An operand specification resolved on a word: its raw field extracted and handed to its resolver (R115, R154). -/
def resolveSpec (t : RegTab) (w : Word) (sp : OperandSpec) : Option Operand :=
  resolveKind t sp.kind sp.n (field w sp.ranges)

/-- The operands in list order; the first rejected one ends the resolution (R155). -/
def collect : List (Option Operand) → Option (List Operand)
  | [] => some []
  | none :: _ => none
  | some o :: rest => (collect rest).map (o :: ·)

end Sys2Proof.Machine
end

