-- ==== Sys2Proof/Machine/Ops.lean ====
section
/-! DEFINITION. The shared operations: the caller's span and its bytes, fetching a word, reporting a failure (what
stands for taking an exception, spec/60_exceptions.md R305), building the record (spec/44_instruction_builder.md),
presenting the inputs of a call, and a reset between calls. There is no return from an exception: a failure saves
nothing and there is nothing to restore (R306). -/

namespace Sys2Proof.Machine

/-! ## The span -/

/-- Byte `k` of a span, none where the span holds no byte (R26, R50). -/
def readByte (m : Memory) (k : Nat) : Option Byte :=
  match m with
  | [] => none
  | (a, b) :: rest => if a = k then some b else readByte rest k

/-- A span with byte `k` set to `b`, its indices kept rising. -/
def writeByte (m : Memory) (k : Nat) (b : Byte) : Memory :=
  match m with
  | [] => [(k, b)]
  | (a, c) :: rest =>
    if k < a then (k, b) :: (a, c) :: rest
    else if k = a then (k, b) :: rest
    else (a, c) :: writeByte rest k b

/-- Every index of a span is above `lo`, and the indices rise. -/
def spanAbove (lo : Nat) : Memory → Bool
  | [] => true
  | (a, _) :: rest => decide (lo < a) && spanAbove a rest

/-- The canonical form of a span: indices strictly rising. No byte equals what an unlisted index reads as, which is no
byte at all. -/
def Memory.wf : Memory → Bool
  | [] => true
  | (a, _) :: rest => spanAbove a rest

/-- The bytes of a list at consecutive indices from `k`. -/
def spanFrom (k : Nat) : List Byte → Memory
  | [] => []
  | b :: bs => (k, b) :: spanFrom (k + 1) bs

/-- The span of a list of bytes, the first at index 0 (R50 a). -/
def spanOf (bs : List Byte) : Memory := spanFrom 0 bs

/-- A span holds each of bytes `0` to `n - 1` (R343 b). A span of fewer than `n` bytes never does, and is not searched. -/
def spanHolds (m : Memory) (n : Nat) : Bool :=
  decide (n ≤ m.length) && (List.range n).all fun k => (readByte m k).isSome

/-! ## The widths of the ports (R26) -/

/-- Every identifier of the register-class tables has `REG_W` bits (R24, R26). -/
def regtabFits (p : Params) (t : RegTab) : Bool :=
  (t.gpr.toList ++ t.fpr32.toList ++ t.fpr64.toList).all fun i => decide (i < 2 ^ p.regW)

/-- `len`, `addr` and the entries of `REGTAB` have the widths of their ports (R6, R26). -/
def portsFit (s : State) : Bool :=
  decide (s.len < 2 ^ s.params.lenW) && decide (s.addr < 2 ^ s.params.addrW) && regtabFits s.params s.regtab

/-! ## Fetching the word (R100) -/

/-- `BufRead(k)` (R10). -/
def bufRead (s : State) (k : Nat) : Option Byte := readByte s.span k

/-- The word made of bytes 0 to 3, none where the span does not hold them all (R100). -/
def fetchWord (s : State) : Option Word :=
  match bufRead s 0, bufRead s 1, bufRead s 2, bufRead s 3 with
  | some b0, some b1, some b2, some b3 => some (assemble b0 b1 b2 b3)
  | _, _, _, _ => none

/-! ## Results -/

/-- A call ends: its result is driven, and nothing else changes (R20, R156). -/
def finish (r : Result) (s : State) : Host.Outcome State Fault Refusal := .next { s with result := some r }

/-- The result of a failed call: the status, its consumed size, no record (R27, R300, R305). -/
def failureResult (st : Status) : Result := ⟨st, consumedFor st, none⟩

/-- Reporting a failure (R305): no mode, no saved register, no handler, only the result. -/
def reportFailure (st : Status) (s : State) : Host.Outcome State Fault Refusal := finish (failureResult st) s

/-- The result of a successful call: size 4, the address unchanged (R152, R153). -/
def successResult (opcode : Nat) (ops : List Operand) (addr : Nat) : Result :=
  ⟨.success, consumedFor .success, some ⟨opcode, ops, 4, addr⟩⟩

/-- The result of a matched leaf: the record when every operand resolved, InvalidOperand and no record when one did
not (R150, R155, R303). -/
def builtResult (opcode : Nat) (ops : List (Option Operand)) (addr : Nat) : Result :=
  match collect ops with
  | some l => successResult opcode l addr
  | none => failureResult .invalidOperand

/-- The Instruction Builder (R150 to R155) as the end of a call. -/
def deliver (opcode : Nat) (ops : List (Option Operand)) (s : State) : Host.Outcome State Fault Refusal :=
  finish (builtResult opcode ops s.addr) s

/-- A matched leaf of any table: every operand specification resolved on the word, then built (R154 stages 3, 4). -/
def deliverLeaf (l : Leaf) (w : Word) (s : State) : Host.Outcome State Fault Refusal :=
  deliver l.opcode (l.operands.map (resolveSpec s.regtab w)) s

/-! ## The caller's side -/

/-- The caller presents a span of bytes and an address for the next call, with a truthful length (R26, R343 b). -/
def present (bs : List Byte) (a : Nat) (s : State) : State :=
  { s with span := spanOf bs, len := bs.length, addr := a }

/-- A span with a word in bytes 0 to 3, in the block's byte order (R51). -/
def writeWord (m : Memory) (w : Word) : Memory :=
  writeByte (writeByte (writeByte (writeByte m 0 (byteOf w 0)) 1 (byteOf w 1)) 2 (byteOf w 2)) 3 (byteOf w 3)

/-- The caller puts a word at the start of its span, with a length that reaches the word and is truthful (R343 b): the
length stays where it is both already, and is 4 otherwise. -/
def placeWord (w : Word) (s : State) : State :=
  { s with
    span := writeWord s.span w
    len := if 4 ≤ s.len ∧ spanHolds (writeWord s.span w) s.len = true then s.len else 4 }

/-- A start-up with the given parameters and tables and `FEATURES` at its default, before any input is presented
(spec/70_reset_and_hazards.md R341). A reload in service is a new start-up (R344). -/
def startUp (p : Params) (t : Node) (rt : RegTab) : State :=
  { State.reset with params := p, table := t, regtab := rt, features := Config.allFeatures p }

/-- A reset asserted between calls, or during a call, which it aborts without a result (R340): there is no state to
clear, and no result is left. The loaded tables and the caller's inputs are not the block's to change. DESIGN CHOICE,
log 4. -/
def assertReset (s : State) : State := { s with result := none }

end Sys2Proof.Machine
end

