-- ==== Sys2Proof/Machine/Branch.lean ====
section
/-! DEFINITION. The meanings of the conditional branches (spec/45_reference_table_integer.md section 2). A meaning is
what a matched leaf does (spec/44_instruction_builder.md R154, stages 3 and 4): it resolves the raw fields and
delivers the record. The block executes nothing (spec/00_scope.md R5). -/

namespace Sys2Proof.Machine

/-- `BEQ` (R204): opcode identifier 5 with the operands rs1 GPR, rs2 GPR, imm SImmLsl1<13>. -/
def execBeq (rs1 rs2 : RegIx) (raw : BitVec 12) (s : State) : Host.Outcome State Fault Refusal :=
  deliver 5 [resolveGpr s.regtab rs1.toNat, resolveGpr s.regtab rs2.toNat, resolveSimmLsl1 13 raw.toNat] s

/-- `BNE` (R205): opcode identifier 6 with the operands rs1 GPR, rs2 GPR, imm SImmLsl1<13>. -/
def execBne (rs1 rs2 : RegIx) (raw : BitVec 12) (s : State) : Host.Outcome State Fault Refusal :=
  deliver 6 [resolveGpr s.regtab rs1.toNat, resolveGpr s.regtab rs2.toNat, resolveSimmLsl1 13 raw.toNat] s

/-- `BLT` (R206): opcode identifier 7 with the operands rs1 GPR, rs2 GPR, imm SImmLsl1<13>. -/
def execBlt (rs1 rs2 : RegIx) (raw : BitVec 12) (s : State) : Host.Outcome State Fault Refusal :=
  deliver 7 [resolveGpr s.regtab rs1.toNat, resolveGpr s.regtab rs2.toNat, resolveSimmLsl1 13 raw.toNat] s

/-- `BGE` (R207): opcode identifier 8 with the operands rs1 GPR, rs2 GPR, imm SImmLsl1<13>. -/
def execBge (rs1 rs2 : RegIx) (raw : BitVec 12) (s : State) : Host.Outcome State Fault Refusal :=
  deliver 8 [resolveGpr s.regtab rs1.toNat, resolveGpr s.regtab rs2.toNat, resolveSimmLsl1 13 raw.toNat] s

/-- `BLTU` (R208): opcode identifier 9 with the operands rs1 GPR, rs2 GPR, imm SImmLsl1<13>. -/
def execBltu (rs1 rs2 : RegIx) (raw : BitVec 12) (s : State) : Host.Outcome State Fault Refusal :=
  deliver 9 [resolveGpr s.regtab rs1.toNat, resolveGpr s.regtab rs2.toNat, resolveSimmLsl1 13 raw.toNat] s

/-- `BGEU` (R209): opcode identifier 10 with the operands rs1 GPR, rs2 GPR, imm SImmLsl1<13>. -/
def execBgeu (rs1 rs2 : RegIx) (raw : BitVec 12) (s : State) : Host.Outcome State Fault Refusal :=
  deliver 10 [resolveGpr s.regtab rs1.toNat, resolveGpr s.regtab rs2.toNat, resolveSimmLsl1 13 raw.toNat] s

end Sys2Proof.Machine
end

