-- ==== Sys2Proof/Machine/FloatMem.lean ====
section
/-! DEFINITION. The meanings of the float loads and stores (spec/46_reference_table_float.md section 1). A meaning is
what a matched leaf does (spec/44_instruction_builder.md R154, stages 3 and 4): it resolves the raw fields and
delivers the record. The block executes nothing (spec/00_scope.md R5). -/

namespace Sys2Proof.Machine

/-- `FLW` (R250): opcode identifier 40 with the operands rd FPR32, rs1 GPR, imm SImm<12>. -/
def execFlw (rd rs1 : RegIx) (imm : BitVec 12) (s : State) : Host.Outcome State Fault Refusal :=
  deliver 40 [resolveFpr32 s.regtab rd.toNat, resolveGpr s.regtab rs1.toNat, resolveSimm 12 imm.toNat] s

/-- `FLD` (R251): opcode identifier 41 with the operands rd FPR64, rs1 GPR, imm SImm<12>. -/
def execFld (rd rs1 : RegIx) (imm : BitVec 12) (s : State) : Host.Outcome State Fault Refusal :=
  deliver 41 [resolveFpr64 s.regtab rd.toNat, resolveGpr s.regtab rs1.toNat, resolveSimm 12 imm.toNat] s

/-- `FSW` (R252): opcode identifier 42 with the operands rs2 FPR32, rs1 GPR, imm SImm<12>. -/
def execFsw (rs2 rs1 : RegIx) (imm : BitVec 12) (s : State) : Host.Outcome State Fault Refusal :=
  deliver 42 [resolveFpr32 s.regtab rs2.toNat, resolveGpr s.regtab rs1.toNat, resolveSimm 12 imm.toNat] s

/-- `FSD` (R253): opcode identifier 43 with the operands rs2 FPR64, rs1 GPR, imm SImm<12>. -/
def execFsd (rs2 rs1 : RegIx) (imm : BitVec 12) (s : State) : Host.Outcome State Fault Refusal :=
  deliver 43 [resolveFpr64 s.regtab rs2.toNat, resolveGpr s.regtab rs1.toNat, resolveSimm 12 imm.toNat] s

end Sys2Proof.Machine
end

