-- ==== Sys2Proof/Machine/FloatReg.lean ====
section
/-! DEFINITION. The meanings of the float register-register words and moves (spec/46_reference_table_float.md section
2). A meaning is what a matched leaf does (spec/44_instruction_builder.md R154, stages 3 and 4): it resolves the raw
fields and delivers the record. The block executes nothing (spec/00_scope.md R5). -/

namespace Sys2Proof.Machine

/-- `FSGNJ_S` (R254): opcode identifier 44 with the operands rd FPR32, rs1 FPR32, rs2 FPR32. -/
def execFsgnjS (rd rs1 rs2 : RegIx) (s : State) : Host.Outcome State Fault Refusal :=
  deliver 44 [resolveFpr32 s.regtab rd.toNat, resolveFpr32 s.regtab rs1.toNat, resolveFpr32 s.regtab rs2.toNat] s

/-- `FSGNJ_D` (R255): opcode identifier 45 with the operands rd FPR64, rs1 FPR64, rs2 FPR64. -/
def execFsgnjD (rd rs1 rs2 : RegIx) (s : State) : Host.Outcome State Fault Refusal :=
  deliver 45 [resolveFpr64 s.regtab rd.toNat, resolveFpr64 s.regtab rs1.toNat, resolveFpr64 s.regtab rs2.toNat] s

/-- `FMV_X_W` (R256): opcode identifier 46 with the operands rd GPR, rs1 FPR32. -/
def execFmvXW (rd rs1 : RegIx) (s : State) : Host.Outcome State Fault Refusal :=
  deliver 46 [resolveGpr s.regtab rd.toNat, resolveFpr32 s.regtab rs1.toNat] s

/-- `FMV_W_X` (R257): opcode identifier 47 with the operands rd FPR32, rs1 GPR. -/
def execFmvWX (rd rs1 : RegIx) (s : State) : Host.Outcome State Fault Refusal :=
  deliver 47 [resolveFpr32 s.regtab rd.toNat, resolveGpr s.regtab rs1.toNat] s

end Sys2Proof.Machine
end

