-- ==== Sys2Proof/Machine/Load.lean ====
section
/-! DEFINITION. The meanings of the loads (spec/45_reference_table_integer.md section 3). A meaning is what a matched
leaf does (spec/44_instruction_builder.md R154, stages 3 and 4): it resolves the raw fields and delivers the record.
The block executes nothing (spec/00_scope.md R5). -/

namespace Sys2Proof.Machine

/-- `LB` (R210): opcode identifier 11 with the operands rd GPR, rs1 GPR, imm SImm<12>. -/
def execLb (rd rs1 : RegIx) (imm : BitVec 12) (s : State) : Host.Outcome State Fault Refusal :=
  deliver 11 [resolveGpr s.regtab rd.toNat, resolveGpr s.regtab rs1.toNat, resolveSimm 12 imm.toNat] s

/-- `LH` (R211): opcode identifier 12 with the operands rd GPR, rs1 GPR, imm SImm<12>. -/
def execLh (rd rs1 : RegIx) (imm : BitVec 12) (s : State) : Host.Outcome State Fault Refusal :=
  deliver 12 [resolveGpr s.regtab rd.toNat, resolveGpr s.regtab rs1.toNat, resolveSimm 12 imm.toNat] s

/-- `LW` (R212): opcode identifier 13 with the operands rd GPR, rs1 GPR, imm SImm<12>. -/
def execLw (rd rs1 : RegIx) (imm : BitVec 12) (s : State) : Host.Outcome State Fault Refusal :=
  deliver 13 [resolveGpr s.regtab rd.toNat, resolveGpr s.regtab rs1.toNat, resolveSimm 12 imm.toNat] s

/-- `LBU` (R213): opcode identifier 14 with the operands rd GPR, rs1 GPR, imm SImm<12>. -/
def execLbu (rd rs1 : RegIx) (imm : BitVec 12) (s : State) : Host.Outcome State Fault Refusal :=
  deliver 14 [resolveGpr s.regtab rd.toNat, resolveGpr s.regtab rs1.toNat, resolveSimm 12 imm.toNat] s

/-- `LHU` (R214): opcode identifier 15 with the operands rd GPR, rs1 GPR, imm SImm<12>. -/
def execLhu (rd rs1 : RegIx) (imm : BitVec 12) (s : State) : Host.Outcome State Fault Refusal :=
  deliver 15 [resolveGpr s.regtab rd.toNat, resolveGpr s.regtab rs1.toNat, resolveSimm 12 imm.toNat] s

end Sys2Proof.Machine
end

