-- ==== Sys2Proof/Machine/RegImm.lean ====
section
/-! DEFINITION. The meanings of the register-immediate words (spec/45_reference_table_integer.md section 5). A meaning
is what a matched leaf does (spec/44_instruction_builder.md R154, stages 3 and 4): it resolves the raw fields and
delivers the record. The block executes nothing (spec/00_scope.md R5). -/

namespace Sys2Proof.Machine

/-- `ADDI` (R218): opcode identifier 19 with the operands rd GPR, rs1 GPR, imm SImm<12>. -/
def execAddi (rd rs1 : RegIx) (imm : BitVec 12) (s : State) : Host.Outcome State Fault Refusal :=
  deliver 19 [resolveGpr s.regtab rd.toNat, resolveGpr s.regtab rs1.toNat, resolveSimm 12 imm.toNat] s

/-- `SLTI` (R219): opcode identifier 20 with the operands rd GPR, rs1 GPR, imm SImm<12>. -/
def execSlti (rd rs1 : RegIx) (imm : BitVec 12) (s : State) : Host.Outcome State Fault Refusal :=
  deliver 20 [resolveGpr s.regtab rd.toNat, resolveGpr s.regtab rs1.toNat, resolveSimm 12 imm.toNat] s

/-- `SLTIU` (R220): opcode identifier 21 with the operands rd GPR, rs1 GPR, imm SImm<12>. -/
def execSltiu (rd rs1 : RegIx) (imm : BitVec 12) (s : State) : Host.Outcome State Fault Refusal :=
  deliver 21 [resolveGpr s.regtab rd.toNat, resolveGpr s.regtab rs1.toNat, resolveSimm 12 imm.toNat] s

/-- `XORI` (R221): opcode identifier 22 with the operands rd GPR, rs1 GPR, imm SImm<12>. -/
def execXori (rd rs1 : RegIx) (imm : BitVec 12) (s : State) : Host.Outcome State Fault Refusal :=
  deliver 22 [resolveGpr s.regtab rd.toNat, resolveGpr s.regtab rs1.toNat, resolveSimm 12 imm.toNat] s

/-- `ORI` (R222): opcode identifier 23 with the operands rd GPR, rs1 GPR, imm SImm<12>. -/
def execOri (rd rs1 : RegIx) (imm : BitVec 12) (s : State) : Host.Outcome State Fault Refusal :=
  deliver 23 [resolveGpr s.regtab rd.toNat, resolveGpr s.regtab rs1.toNat, resolveSimm 12 imm.toNat] s

/-- `ANDI` (R223): opcode identifier 24 with the operands rd GPR, rs1 GPR, imm SImm<12>. -/
def execAndi (rd rs1 : RegIx) (imm : BitVec 12) (s : State) : Host.Outcome State Fault Refusal :=
  deliver 24 [resolveGpr s.regtab rd.toNat, resolveGpr s.regtab rs1.toNat, resolveSimm 12 imm.toNat] s

end Sys2Proof.Machine
end

