-- ==== Sys2Proof/Machine/RegReg.lean ====
section
/-! DEFINITION. The meanings of the register-register words (spec/45_reference_table_integer.md section 7). A meaning
is what a matched leaf does (spec/44_instruction_builder.md R154, stages 3 and 4): it resolves the raw fields and
delivers the record. The block executes nothing (spec/00_scope.md R5). -/

namespace Sys2Proof.Machine

/-- `ADD` (R227): opcode identifier 28 with the operands rd GPR, rs1 GPR, rs2 GPR. -/
def execAdd (rd rs1 rs2 : RegIx) (s : State) : Host.Outcome State Fault Refusal :=
  deliver 28 [resolveGpr s.regtab rd.toNat, resolveGpr s.regtab rs1.toNat, resolveGpr s.regtab rs2.toNat] s

/-- `SUB` (R228): opcode identifier 29 with the operands rd GPR, rs1 GPR, rs2 GPR. -/
def execSub (rd rs1 rs2 : RegIx) (s : State) : Host.Outcome State Fault Refusal :=
  deliver 29 [resolveGpr s.regtab rd.toNat, resolveGpr s.regtab rs1.toNat, resolveGpr s.regtab rs2.toNat] s

/-- `SLL` (R229): opcode identifier 30 with the operands rd GPR, rs1 GPR, rs2 GPR. -/
def execSll (rd rs1 rs2 : RegIx) (s : State) : Host.Outcome State Fault Refusal :=
  deliver 30 [resolveGpr s.regtab rd.toNat, resolveGpr s.regtab rs1.toNat, resolveGpr s.regtab rs2.toNat] s

/-- `SLT` (R230): opcode identifier 31 with the operands rd GPR, rs1 GPR, rs2 GPR. -/
def execSlt (rd rs1 rs2 : RegIx) (s : State) : Host.Outcome State Fault Refusal :=
  deliver 31 [resolveGpr s.regtab rd.toNat, resolveGpr s.regtab rs1.toNat, resolveGpr s.regtab rs2.toNat] s

/-- `SLTU` (R231): opcode identifier 32 with the operands rd GPR, rs1 GPR, rs2 GPR. -/
def execSltu (rd rs1 rs2 : RegIx) (s : State) : Host.Outcome State Fault Refusal :=
  deliver 32 [resolveGpr s.regtab rd.toNat, resolveGpr s.regtab rs1.toNat, resolveGpr s.regtab rs2.toNat] s

/-- `XOR` (R232): opcode identifier 33 with the operands rd GPR, rs1 GPR, rs2 GPR. -/
def execXor (rd rs1 rs2 : RegIx) (s : State) : Host.Outcome State Fault Refusal :=
  deliver 33 [resolveGpr s.regtab rd.toNat, resolveGpr s.regtab rs1.toNat, resolveGpr s.regtab rs2.toNat] s

/-- `SRL` (R233): opcode identifier 34 with the operands rd GPR, rs1 GPR, rs2 GPR. -/
def execSrl (rd rs1 rs2 : RegIx) (s : State) : Host.Outcome State Fault Refusal :=
  deliver 34 [resolveGpr s.regtab rd.toNat, resolveGpr s.regtab rs1.toNat, resolveGpr s.regtab rs2.toNat] s

/-- `SRA` (R234): opcode identifier 35 with the operands rd GPR, rs1 GPR, rs2 GPR. -/
def execSra (rd rs1 rs2 : RegIx) (s : State) : Host.Outcome State Fault Refusal :=
  deliver 35 [resolveGpr s.regtab rd.toNat, resolveGpr s.regtab rs1.toNat, resolveGpr s.regtab rs2.toNat] s

/-- `OR` (R235): opcode identifier 36 with the operands rd GPR, rs1 GPR, rs2 GPR. -/
def execOr (rd rs1 rs2 : RegIx) (s : State) : Host.Outcome State Fault Refusal :=
  deliver 36 [resolveGpr s.regtab rd.toNat, resolveGpr s.regtab rs1.toNat, resolveGpr s.regtab rs2.toNat] s

/-- `AND` (R236): opcode identifier 37 with the operands rd GPR, rs1 GPR, rs2 GPR. -/
def execAnd (rd rs1 rs2 : RegIx) (s : State) : Host.Outcome State Fault Refusal :=
  deliver 37 [resolveGpr s.regtab rd.toNat, resolveGpr s.regtab rs1.toNat, resolveGpr s.regtab rs2.toNat] s

end Sys2Proof.Machine
end

