-- ==== Sys2Proof/Machine/ShiftImm.lean ====
section
/-! DEFINITION. The meanings of the shift-immediate words (spec/45_reference_table_integer.md section 6). A meaning is
what a matched leaf does (spec/44_instruction_builder.md R154, stages 3 and 4): it resolves the raw fields and
delivers the record. The block executes nothing (spec/00_scope.md R5). -/

namespace Sys2Proof.Machine

/-- `SLLI` (R224): opcode identifier 25 with the operands rd GPR, rs1 GPR, shamt UImm<5>. -/
def execSlli (rd rs1 : RegIx) (shamt : BitVec 5) (s : State) : Host.Outcome State Fault Refusal :=
  deliver 25 [resolveGpr s.regtab rd.toNat, resolveGpr s.regtab rs1.toNat, resolveUimm shamt.toNat] s

/-- `SRLI` (R225): opcode identifier 26 with the operands rd GPR, rs1 GPR, shamt UImm<5>. -/
def execSrli (rd rs1 : RegIx) (shamt : BitVec 5) (s : State) : Host.Outcome State Fault Refusal :=
  deliver 26 [resolveGpr s.regtab rd.toNat, resolveGpr s.regtab rs1.toNat, resolveUimm shamt.toNat] s

/-- `SRAI` (R226): opcode identifier 27 with the operands rd GPR, rs1 GPR, shamt UImm<5>. -/
def execSrai (rd rs1 : RegIx) (shamt : BitVec 5) (s : State) : Host.Outcome State Fault Refusal :=
  deliver 27 [resolveGpr s.regtab rd.toNat, resolveGpr s.regtab rs1.toNat, resolveUimm shamt.toNat] s

end Sys2Proof.Machine
end

