-- ==== Sys2Proof/Machine/Store.lean ====
section
/-! DEFINITION. The meanings of the stores (spec/45_reference_table_integer.md section 4); the data register comes
first in the record. A meaning is what a matched leaf does (spec/44_instruction_builder.md R154, stages 3 and 4): it
resolves the raw fields and delivers the record. The block executes nothing (spec/00_scope.md R5). -/

namespace Sys2Proof.Machine

/-- `SB` (R215): opcode identifier 16 with the operands rs2 GPR, rs1 GPR, imm SImm<12>. -/
def execSb (rs2 rs1 : RegIx) (imm : BitVec 12) (s : State) : Host.Outcome State Fault Refusal :=
  deliver 16 [resolveGpr s.regtab rs2.toNat, resolveGpr s.regtab rs1.toNat, resolveSimm 12 imm.toNat] s

/-- `SH` (R216): opcode identifier 17 with the operands rs2 GPR, rs1 GPR, imm SImm<12>. -/
def execSh (rs2 rs1 : RegIx) (imm : BitVec 12) (s : State) : Host.Outcome State Fault Refusal :=
  deliver 17 [resolveGpr s.regtab rs2.toNat, resolveGpr s.regtab rs1.toNat, resolveSimm 12 imm.toNat] s

/-- `SW` (R217): opcode identifier 18 with the operands rs2 GPR, rs1 GPR, imm SImm<12>. -/
def execSw (rs2 rs1 : RegIx) (imm : BitVec 12) (s : State) : Host.Outcome State Fault Refusal :=
  deliver 18 [resolveGpr s.regtab rs2.toNat, resolveGpr s.regtab rs1.toNat, resolveSimm 12 imm.toNat] s

end Sys2Proof.Machine
end

