-- ==== Sys2Proof/Machine/System.lean ====
section
/-! DEFINITION. The meanings of the system words (spec/45_reference_table_integer.md section 8), which have no
operands and no effect on the block (spec/60_exceptions.md R312). A meaning is what a matched leaf does
(spec/44_instruction_builder.md R154, stages 3 and 4): it resolves the raw fields and delivers the record. The block
executes nothing (spec/00_scope.md R5). -/

namespace Sys2Proof.Machine

/-- `ECALL` (R237): opcode identifier 38 with no operands. -/
def execEcall (s : State) : Host.Outcome State Fault Refusal :=
  deliver 38 [] s

/-- `EBREAK` (R238): opcode identifier 39 with no operands. -/
def execEbreak (s : State) : Host.Outcome State Fault Refusal :=
  deliver 39 [] s

end Sys2Proof.Machine
end

