-- ==== Sys2Proof/Machine/UpperJump.lean ====
section
/-! DEFINITION. The meanings of the upper immediates and jumps (spec/45_reference_table_integer.md section 1). A
meaning is what a matched leaf does (spec/44_instruction_builder.md R154, stages 3 and 4): it resolves the raw fields
and delivers the record. The block executes nothing (spec/00_scope.md R5). -/

namespace Sys2Proof.Machine

/-- `LUI` (R200): opcode identifier 1 with the operands rd GPR, imm UImm<20>. -/
def execLui (rd : RegIx) (imm : BitVec 20) (s : State) : Host.Outcome State Fault Refusal :=
  deliver 1 [resolveGpr s.regtab rd.toNat, resolveUimm imm.toNat] s

/-- `AUIPC` (R201): opcode identifier 2 with the operands rd GPR, imm UImm<20>. -/
def execAuipc (rd : RegIx) (imm : BitVec 20) (s : State) : Host.Outcome State Fault Refusal :=
  deliver 2 [resolveGpr s.regtab rd.toNat, resolveUimm imm.toNat] s

/-- `JAL` (R202): opcode identifier 3 with the operands rd GPR, imm SImmLsl1<21>. -/
def execJal (rd : RegIx) (raw : BitVec 20) (s : State) : Host.Outcome State Fault Refusal :=
  deliver 3 [resolveGpr s.regtab rd.toNat, resolveSimmLsl1 21 raw.toNat] s

/-- `JALR` (R203): opcode identifier 4 with the operands rd GPR, rs1 GPR, imm SImm<12>. -/
def execJalr (rd rs1 : RegIx) (imm : BitVec 12) (s : State) : Host.Outcome State Fault Refusal :=
  deliver 4 [resolveGpr s.regtab rd.toNat, resolveGpr s.regtab rs1.toNat, resolveSimm 12 imm.toNat] s

end Sys2Proof.Machine
end

