-- ==== Sys2Proof/Machine/Dispatch.lean ====
section
/-! DEFINITION. One arm per constructor of `Instr`, each a direct call of its meaning. -/

namespace Sys2Proof.Machine

/-- What the block does when a word has reached the leaf that `i` stands for, with the raw fields of `i`. -/
def exec (i : Instr) (s : State) : Host.Outcome State Fault Refusal :=
  match i with
  | .lui rd imm => Sys2Proof.Machine.execLui rd imm s
  | .auipc rd imm => Sys2Proof.Machine.execAuipc rd imm s
  | .jal rd raw => Sys2Proof.Machine.execJal rd raw s
  | .jalr rd rs1 imm => Sys2Proof.Machine.execJalr rd rs1 imm s
  | .beq rs1 rs2 raw => Sys2Proof.Machine.execBeq rs1 rs2 raw s
  | .bne rs1 rs2 raw => Sys2Proof.Machine.execBne rs1 rs2 raw s
  | .blt rs1 rs2 raw => Sys2Proof.Machine.execBlt rs1 rs2 raw s
  | .bge rs1 rs2 raw => Sys2Proof.Machine.execBge rs1 rs2 raw s
  | .bltu rs1 rs2 raw => Sys2Proof.Machine.execBltu rs1 rs2 raw s
  | .bgeu rs1 rs2 raw => Sys2Proof.Machine.execBgeu rs1 rs2 raw s
  | .lb rd rs1 imm => Sys2Proof.Machine.execLb rd rs1 imm s
  | .lh rd rs1 imm => Sys2Proof.Machine.execLh rd rs1 imm s
  | .lw rd rs1 imm => Sys2Proof.Machine.execLw rd rs1 imm s
  | .lbu rd rs1 imm => Sys2Proof.Machine.execLbu rd rs1 imm s
  | .lhu rd rs1 imm => Sys2Proof.Machine.execLhu rd rs1 imm s
  | .sb rs2 rs1 imm => Sys2Proof.Machine.execSb rs2 rs1 imm s
  | .sh rs2 rs1 imm => Sys2Proof.Machine.execSh rs2 rs1 imm s
  | .sw rs2 rs1 imm => Sys2Proof.Machine.execSw rs2 rs1 imm s
  | .addi rd rs1 imm => Sys2Proof.Machine.execAddi rd rs1 imm s
  | .slti rd rs1 imm => Sys2Proof.Machine.execSlti rd rs1 imm s
  | .sltiu rd rs1 imm => Sys2Proof.Machine.execSltiu rd rs1 imm s
  | .xori rd rs1 imm => Sys2Proof.Machine.execXori rd rs1 imm s
  | .ori rd rs1 imm => Sys2Proof.Machine.execOri rd rs1 imm s
  | .andi rd rs1 imm => Sys2Proof.Machine.execAndi rd rs1 imm s
  | .slli rd rs1 shamt => Sys2Proof.Machine.execSlli rd rs1 shamt s
  | .srli rd rs1 shamt => Sys2Proof.Machine.execSrli rd rs1 shamt s
  | .srai rd rs1 shamt => Sys2Proof.Machine.execSrai rd rs1 shamt s
  | .add rd rs1 rs2 => Sys2Proof.Machine.execAdd rd rs1 rs2 s
  | .sub rd rs1 rs2 => Sys2Proof.Machine.execSub rd rs1 rs2 s
  | .sll rd rs1 rs2 => Sys2Proof.Machine.execSll rd rs1 rs2 s
  | .slt rd rs1 rs2 => Sys2Proof.Machine.execSlt rd rs1 rs2 s
  | .sltu rd rs1 rs2 => Sys2Proof.Machine.execSltu rd rs1 rs2 s
  | .xor rd rs1 rs2 => Sys2Proof.Machine.execXor rd rs1 rs2 s
  | .srl rd rs1 rs2 => Sys2Proof.Machine.execSrl rd rs1 rs2 s
  | .sra rd rs1 rs2 => Sys2Proof.Machine.execSra rd rs1 rs2 s
  | .or rd rs1 rs2 => Sys2Proof.Machine.execOr rd rs1 rs2 s
  | .and rd rs1 rs2 => Sys2Proof.Machine.execAnd rd rs1 rs2 s
  | .ecall => Sys2Proof.Machine.execEcall s
  | .ebreak => Sys2Proof.Machine.execEbreak s
  | .flw rd rs1 imm => Sys2Proof.Machine.execFlw rd rs1 imm s
  | .fld rd rs1 imm => Sys2Proof.Machine.execFld rd rs1 imm s
  | .fsw rs2 rs1 imm => Sys2Proof.Machine.execFsw rs2 rs1 imm s
  | .fsd rs2 rs1 imm => Sys2Proof.Machine.execFsd rs2 rs1 imm s
  | .fsgnjS rd rs1 rs2 => Sys2Proof.Machine.execFsgnjS rd rs1 rs2 s
  | .fsgnjD rd rs1 rs2 => Sys2Proof.Machine.execFsgnjD rd rs1 rs2 s
  | .fmvXW rd rs1 => Sys2Proof.Machine.execFmvXW rd rs1 s
  | .fmvWX rd rs1 => Sys2Proof.Machine.execFmvWX rd rs1 s

end Sys2Proof.Machine
end

