-- ==== Sys2Proof/Machine/Reference.lean ====
section
/-! DEFINITION. The complete call as one pure function of its inputs, as spec/44_instruction_builder.md R154 writes it
(and spec/10_state.md R20: `decode(cfg, buf, len, addr)`). The step of the machine is stated to agree with it for every
well-formed table. Its premises, a well-formed table and `FEATURES` all ones, are checked by the step. -/

namespace Sys2Proof.Machine

/-- The result of a word: walk the table, resolve the operands, build the record (R154 stages 2 to 4). -/
def decodeWordWith (t : Node) (rt : RegTab) (w : Word) (a : Nat) : Result :=
  match walk w t with
  | none => failureResult .unrecognizedEncoding
  | some l => builtResult l.opcode (l.operands.map (resolveSpec rt w)) a

/-- `decode(buf, len, addr)` with `len` the number of bytes given (R154). -/
def decodeCall (t : Node) (rt : RegTab) (bs : List Byte) (a : Nat) : Result :=
  match bs with
  | b0 :: b1 :: b2 :: b3 :: _ => decodeWordWith t rt (assemble b0 b1 b2 b3) a
  | _ => failureResult .insufficientInput

end Sys2Proof.Machine
end

