-- ==== Sys2Proof/Machine/Call.lean ====
section
/-! DEFINITION. One decode call on the inputs the state holds (spec/44_instruction_builder.md R154), in the order of
decision of spec/60_exceptions.md R304: the premises on the configuration and the caller, the length, the walk, the operands. A leaf of
REF is run by its meaning; a leaf of another table by the builder on its own operand specifications. -/

namespace Sys2Proof.Machine

/-- A matched leaf: the meaning of the instruction it stands for, or the builder on the leaf itself (R154). -/
def runLeaf (l : Leaf) (w : Word) (s : State) : Host.Outcome State Fault Refusal :=
  match instrOf l w with
  | some i => exec i s
  | none => deliverLeaf l w s

/-- The walk of the state's table decides UnrecognizedEncoding or the leaf (R110, R302). -/
def runWord (w : Word) (s : State) : Host.Outcome State Fault Refusal :=
  match walk w s.table with
  | none => reportFailure .unrecognizedEncoding s
  | some l => runLeaf l w s

/-- The complete call (R154, R304). `FEATURES` other than all ones, a value wider than its port, an ill-formed table
and a length that the span does not reach have no meaning (R25, R26, R75, R343 b); that they are looked at first, and
in this order, is DEDUCED, log 6. `len < 4` is decided before any byte is read (R101). -/
def call (s : State) : Host.Outcome State Fault Refusal :=
  if s.features ≠ Config.allFeatures s.params then .refused .featuresNotAllOnes
  else if portsFit s = false then .refused .valueWiderThanPort
  else if tableOk s.params s.table = false then .refused .illFormedTable
  else if spanHolds s.span s.len = false then .refused .lengthBeyondSpan
  else if s.len < 4 then reportFailure .insufficientInput s
  else
    match fetchWord s with
    | none => .fault .spanByteAbsent
    | some w => runWord w s

end Sys2Proof.Machine
end

