-- ==== Sys2Proof/Machine/Step.lean ====
section
/-! DEFINITION. The step: one decode call (spec/00_scope.md R7). -/

namespace Sys2Proof.Machine

/-- One step is one complete call on the inputs presented (R7, R154). -/
def step (s : State) : Host.Outcome State Fault Refusal := call s

/-- `s` with the instruction of `nbits` bits `w` as the first word of its span, and the length made to reach it: what
the caller presents for the next call. -/
def State.withFetchWord (s : State) (nbits w : Nat) : State := placeWord (tableWord nbits w) s

end Sys2Proof.Machine
end

