-- ==== Sys2Proof/Machine/Ports.lean ====
section
/-! DEFINITION. The output ports of spec/10_state.md R27: the pins that carry a result, with the fixed slot array that
the builder clears before every call (spec/44_instruction_builder.md R151). The zero fields of a failed call are what
the hardware drives; the model's record of such a call is absent and no claim reads them (R27). -/

namespace Sys2Proof.Machine

/-- One operand slot `rec.op[j]`: tag 0 NONE, 1 REG, 2 IMM, and the 64-bit value (R27). -/
structure Slot where
  tag : BitVec 2
  val : BitVec 64
deriving DecidableEq, Repr

/-- The output ports of a call (R27). -/
structure Ports where
  status : BitVec 2
  consumed : BitVec 3
  opcode : Nat
  nops : BitVec 4
  slots : List Slot
  size : BitVec 3
  addr : Nat
deriving DecidableEq, Repr

/-- An empty slot: NONE and 0 (R27, R151). -/
def emptySlot : Slot := ⟨0, 0⟩

/-- The slot of an operand: a register identifier zero-extended, an immediate as it is (R27). -/
def slotOf : Operand → Slot
  | .reg id => ⟨1, BitVec.ofNat 64 id⟩
  | .imm v => ⟨2, v⟩

/-- The cleared slot array of `MAX_OPERANDS` slots with the operands written from slot 0 on (R151). -/
def slotsOf (p : Params) (ops : List Operand) : List Slot :=
  (ops.map slotOf ++ List.replicate p.maxOperands emptySlot).take p.maxOperands

/-- The ports that carry a result of a call whose `addr` input was `a` (R27). `rec.nops` has 4 bits, so the ports
carry at most 15 operands, whatever `MAX_OPERANDS` is (log 1). -/
def portsOf (p : Params) (r : Result) (a : Nat) : Ports :=
  match r.record with
  | some rc =>
    ⟨statusCode r.status, r.consumed, rc.opcode, BitVec.ofNat 4 rc.operands.length, slotsOf p rc.operands, rc.size,
      rc.addr⟩
  | none => ⟨statusCode r.status, r.consumed, 0, 0, slotsOf p [], r.consumed, a⟩

end Sys2Proof.Machine
end

