-- ==== Sys2Proof/Machine/Tables.lean ====
section
/-! DEFINITION. Flat lists and trees that claims speak of beside REF: the rows of `opcode_table.json` (spec/30_encoding.md
R81), and the two test-only tables of spec/95_test_vectors.md sections 2.3 and 2.7 (decision D31), which make the
boundary index 32 and the most-specific rule reachable. -/

namespace Sys2Proof

/-- The rows of `opcode_table.json` in its order: mask, match and leaf (R81). -/
def opcodeRows : List FlatRow :=
  [⟨0x0000007F, 0x00000037, leafLui⟩,
   ⟨0x0000007F, 0x00000017, leafAuipc⟩,
   ⟨0x0000007F, 0x0000006F, leafJal⟩,
   ⟨0x0000707F, 0x00000067, leafJalr⟩,
   ⟨0x0000707F, 0x00000063, leafBeq⟩,
   ⟨0x0000707F, 0x00001063, leafBne⟩,
   ⟨0x0000707F, 0x00004063, leafBlt⟩,
   ⟨0x0000707F, 0x00005063, leafBge⟩,
   ⟨0x0000707F, 0x00006063, leafBltu⟩,
   ⟨0x0000707F, 0x00007063, leafBgeu⟩,
   ⟨0x0000707F, 0x00000003, leafLb⟩,
   ⟨0x0000707F, 0x00001003, leafLh⟩,
   ⟨0x0000707F, 0x00002003, leafLw⟩,
   ⟨0x0000707F, 0x00004003, leafLbu⟩,
   ⟨0x0000707F, 0x00005003, leafLhu⟩,
   ⟨0x0000707F, 0x00000023, leafSb⟩,
   ⟨0x0000707F, 0x00001023, leafSh⟩,
   ⟨0x0000707F, 0x00002023, leafSw⟩,
   ⟨0x0000707F, 0x00000013, leafAddi⟩,
   ⟨0x0000707F, 0x00002013, leafSlti⟩,
   ⟨0x0000707F, 0x00003013, leafSltiu⟩,
   ⟨0x0000707F, 0x00004013, leafXori⟩,
   ⟨0x0000707F, 0x00006013, leafOri⟩,
   ⟨0x0000707F, 0x00007013, leafAndi⟩,
   ⟨0xFE00707F, 0x00001013, leafSlli⟩,
   ⟨0xFE00707F, 0x00005013, leafSrli⟩,
   ⟨0xFE00707F, 0x40005013, leafSrai⟩,
   ⟨0xFE00707F, 0x00000033, leafAdd⟩,
   ⟨0xFE00707F, 0x40000033, leafSub⟩,
   ⟨0xFE00707F, 0x00001033, leafSll⟩,
   ⟨0xFE00707F, 0x00002033, leafSlt⟩,
   ⟨0xFE00707F, 0x00003033, leafSltu⟩,
   ⟨0xFE00707F, 0x00004033, leafXor⟩,
   ⟨0xFE00707F, 0x00005033, leafSrl⟩,
   ⟨0xFE00707F, 0x40005033, leafSra⟩,
   ⟨0xFE00707F, 0x00006033, leafOr⟩,
   ⟨0xFE00707F, 0x00007033, leafAnd⟩,
   ⟨0xFFFFFFFF, 0x00000073, leafEcall⟩,
   ⟨0xFFFFFFFF, 0x00100073, leafEbreak⟩,
   ⟨0x0000707F, 0x00002007, leafFlw⟩,
   ⟨0x0000707F, 0x00003007, leafFld⟩,
   ⟨0x0000707F, 0x00002027, leafFsw⟩,
   ⟨0x0000707F, 0x00003027, leafFsd⟩,
   ⟨0xFE00707F, 0x20000053, leafFsgnjS⟩,
   ⟨0xFE00707F, 0x22000053, leafFsgnjD⟩,
   ⟨0xFFF0707F, 0xE0000053, leafFmvXW⟩,
   ⟨0xFFF0707F, 0xF0000053, leafFmvWX⟩]

/-- T-REG6: one leaf whose three register fields are 6 bits wide (spec/95_test_vectors.md section 2.3). -/
def tableReg6 : Node :=
  .branch ⟨6, 0⟩ (.cons 0x0B
    (.leaf ⟨100, [⟨.gpr, 6, [⟨12, 7⟩]⟩, ⟨.fpr32, 6, [⟨18, 13⟩]⟩, ⟨.fpr64, 6, [⟨24, 19⟩]⟩]⟩) .nil)

/-- The leaf GEN of T-OVL (spec/95_test_vectors.md section 2.7). -/
def leafGen : Leaf := ⟨200, [⟨.uimm, 25, [⟨31, 7⟩]⟩]⟩

/-- The leaf SPEC of T-OVL (spec/95_test_vectors.md section 2.7). -/
def leafSpec : Leaf := ⟨201, [⟨.gpr, 5, [⟨11, 7⟩]⟩]⟩

/-- A third leaf for the list that is refused (spec/95_test_vectors.md section 2.7, ALT; its contents are not given
there, and no claim reads them). -/
def leafAlt : Leaf := ⟨202, []⟩

/-- Row A of the overlapping list: 7 bits tested. -/
def rowGen : FlatRow := ⟨0x0000007F, 0x0000000B, leafGen⟩

/-- Row B of the overlapping list: 10 bits tested. -/
def rowSpec : FlatRow := ⟨0x0000707F, 0x0000100B, leafSpec⟩

/-- Row D of the refused list: 10 bits tested, others than row B's. -/
def rowAlt : FlatRow := ⟨0x000003FF, 0x0000000B, leafAlt⟩

/-- T-OVL, the tree built from rows A and B (spec/95_test_vectors.md section 2.7). -/
def tableOvl : Node :=
  onOpcode [(0x0B, onFunct3
    [(0, .leaf leafGen), (1, .leaf leafSpec), (2, .leaf leafGen), (3, .leaf leafGen), (4, .leaf leafGen),
     (5, .leaf leafGen), (6, .leaf leafGen), (7, .leaf leafGen)])]

end Sys2Proof
end

