-- ==== Sys2Proof/Safety.lean ====
section
/-! DEFINITION. The terms claims use: the premises of a call, what a call's result must be like, and the invariant of
the machine. -/

namespace Sys2Proof.Machine

/-- The configuration has a meaning: `FEATURES` all ones (R25), every value no wider than its port (R26) and a
well-formed table (R75). -/
abbrev State.configured (s : State) : Prop :=
  s.features = Config.allFeatures s.params ∧ portsFit s = true ∧ tableOk s.params s.table = true

/-- The length is truthful: the span holds each of bytes `0` to `len - 1` (R343 b; the caller's premise on every
call). -/
abbrev State.truthful (s : State) : Prop := ∀ k < s.len, bufRead s k ≠ none

/-- The inputs present the word `w`: a truthful length of at least 4 bytes, and bytes 0 to 3 are `W[8k+7:8k]` (R100,
R104, R343 b). -/
abbrev State.presents (s : State) (w : Word) : Prop :=
  s.truthful ∧ 4 ≤ s.len ∧ bufRead s 0 = some (w.extractLsb' 0 8) ∧ bufRead s 1 = some (w.extractLsb' 8 8) ∧
    bufRead s 2 = some (w.extractLsb' 16 8) ∧ bufRead s 3 = some (w.extractLsb' 24 8)

/-- The machine decodes REF words: configured, with REF as its table. -/
abbrev State.runsRef (s : State) : Prop := s.configured ∧ s.table = ref

/-- A call ends with the result `r` and changes nothing else. -/
abbrev endsWith (o : Host.Outcome State Fault Refusal) (s : State) (r : Result) : Prop :=
  o = .next { s with result := some r }

/-- A successful result: consumed 4, and a record of size 4 with the given opcode identifier, operands and address
(R27, R152, R153). -/
abbrev delivered (opcode : Nat) (ops : List Operand) (a : Nat) : Result :=
  ⟨.success, 4#3, some ⟨opcode, ops, 4#3, a⟩⟩

/-- A failed result: a status, its consumed size and no record (R300). -/
abbrev failed (st : Status) (consumed : BitVec 3) : Result := ⟨st, consumed, none⟩

/-- What every result is like: 0 bytes are consumed exactly on InsufficientInput and 4 otherwise, there is a record
exactly on success, and the record has a valid opcode identifier of `OPC_W` bits, at most `MAX_OPERANDS` operands,
register identifiers of `REG_W` bits, size 4 and an address of `ADDR_W` bits (R27, R152, R300). -/
def resultOk (p : Params) (r : Result) : Prop :=
  (r.status = .insufficientInput → r.consumed = 0#3) ∧ (r.status ≠ .insufficientInput → r.consumed = 4#3) ∧
    (r.record.isSome = true ↔ r.status = .success) ∧
    ∀ rc, r.record = some rc →
      rc.opcode ≠ 0 ∧ rc.opcode < 2 ^ p.opcW ∧ rc.operands.length ≤ p.maxOperands ∧
        (∀ id, .reg id ∈ rc.operands → id < 2 ^ p.regW) ∧ rc.size = 4#3 ∧ rc.addr < 2 ^ p.addrW

/-- The invariant of the machine: the span has its canonical form, and the last result, where there is one, is a
result that a call can end with. -/
def State.Inv (s : State) : Prop := Memory.wf s.span = true ∧ ∀ r, s.result = some r → resultOk s.params r

/-- An operand specification names a register class (R74). -/
def isRegister (sp : OperandSpec) : Bool :=
  match sp.kind with
  | .gpr => true
  | .fpr32 => true
  | .fpr64 => true
  | .uimm => false
  | .simm => false
  | .simmLsl1 => false

/-- Some register operand of a leaf has a raw index of 32 or more on the word (R133, R303). -/
def badIndex (l : Leaf) (w : Word) : Prop :=
  ∃ sp ∈ l.operands, isRegister sp = true ∧ 32 ≤ field w sp.ranges

/-- Every register field of every leaf of a table is at most 5 bits wide (R158 e). -/
def narrowRegisters (t : Node) : Prop :=
  ∀ r ∈ flatRows t, ∀ sp ∈ r.leaf.operands, isRegister sp = true → rawWidth sp.ranges ≤ 5

/-! ## Ill-formed tables, in the words of R75

These say what WF1 to WF10 forbid without the model's own check `tableOk`. -/

/-- The (value, child) pairs of a branch (R73). -/
def childPairs : Children → List (Nat × Node)
  | .nil => []
  | .cons v n rest => (v, n) :: childPairs rest

/-- `Reaches t path m`: the node `m` lies in the tree `t`, and `path` lists the selectors of the branches above it. -/
inductive Reaches : Node → List BitRange → Node → Prop where
  | here (t : Node) : Reaches t [] t
  | through {sel : BitRange} {ch : Children} {v : Nat} {n m : Node} {path : List BitRange} :
    (v, n) ∈ childPairs ch → Reaches n path m → Reaches (.branch sel ch) (sel :: path) m

/-- A range is none of the word (against WF1, WF7). -/
abbrev outsideWord (r : BitRange) : Prop := r.hi < r.lo ∨ 31 < r.hi

/-- Two ranges have a bit in common (against WF4). -/
def shareBit (a b : BitRange) : Prop := ∃ i, a.lo ≤ i ∧ i ≤ a.hi ∧ b.lo ≤ i ∧ i ≤ b.hi

/-- The number of bits of some ranges together, each of them in the word. -/
def bitCount (rs : List BitRange) : Nat := (rs.map fun r => r.hi + 1 - r.lo).sum

/-- An operand specification breaks WF7 (a range outside the word, a raw width of 0 or above 32), WF8, WF9 or WF10. -/
def badSpec (sp : OperandSpec) : Prop :=
  (∃ r ∈ sp.ranges, outsideWord r) ∨ bitCount sp.ranges = 0 ∨ 32 < bitCount sp.ranges ∨
  (sp.kind ∈ [.gpr, .fpr32, .fpr64, .uimm] ∧ sp.n ≠ bitCount sp.ranges) ∨
  (sp.kind = .simm ∧ (sp.n < bitCount sp.ranges ∨ 64 < sp.n)) ∨
  (sp.kind = .simmLsl1 ∧ (sp.n < bitCount sp.ranges + 1 ∨ 64 < sp.n))

/-- A leaf breaks WF5, the width of an opcode identifier, WF6, or WF7 to WF10 in an operand. -/
def badLeaf (p : Params) (l : Leaf) : Prop :=
  l.opcode = 0 ∨ 2 ^ p.opcW ≤ l.opcode ∨ p.maxOperands < l.operands.length ∨ ∃ sp ∈ l.operands, badSpec sp

/-- A branch below the selectors `path` breaks WF1, WF2, WF3 or WF4. -/
def badBranch (p : Params) (path : List BitRange) (sel : BitRange) (ch : Children) : Prop :=
  outsideWord sel ∨ ¬ ((childPairs ch).map (·.1)).Nodup ∨
  (∃ v ∈ (childPairs ch).map (·.1), 2 ^ (sel.hi - sel.lo + 1) ≤ v) ∨
  p.depthMax < path.length + 1 ∨ ∃ q ∈ path, shareBit q sel

/-- Some leaf or some branch of a table breaks one of WF1 to WF10. -/
def illFormed (p : Params) (t : Node) : Prop :=
  (∃ path l, Reaches t path (.leaf l) ∧ badLeaf p l) ∨
  ∃ path sel ch, Reaches t path (.branch sel ch) ∧ badBranch p path sel ch

/-! ## Operands, written with Lean's own bit operations

The rules of the leaves (spec/45_reference_table_integer.md, spec/46_reference_table_float.md) name the operands of a
record by bits of the word. These say the same without the model's own `field`, `sext` and resolvers. -/

/-- `Reg(REGTAB[GPR][i])` for a 5-bit index. -/
abbrev gprOf (rt : RegTab) (i : RegIx) : Operand := .reg (rt.gpr[i.toNat]'i.isLt)

/-- `Reg(REGTAB[FPR32][i])` for a 5-bit index. -/
abbrev fpr32Of (rt : RegTab) (i : RegIx) : Operand := .reg (rt.fpr32[i.toNat]'i.isLt)

/-- `Reg(REGTAB[FPR64][i])` for a 5-bit index. -/
abbrev fpr64Of (rt : RegTab) (i : RegIx) : Operand := .reg (rt.fpr64[i.toNat]'i.isLt)

/-- `Imm(sext_n(v))` for a field of exactly `n` bits. -/
abbrev signedImm {n : Nat} (v : BitVec n) : Operand := .imm (v.signExtend 64)

/-- `Imm(sext_(n+1)(v << 1))` for a field of exactly `n` bits. -/
abbrev evenImm {n : Nat} (v : BitVec n) : Operand := .imm ((v ++ 0#1).signExtend 64)

/-- `Imm(zext_64(v))`. -/
abbrev unsignedImm {n : Nat} (v : BitVec n) : Operand := .imm (v.setWidth 64)

/-- `W[11:7]`. -/
abbrev rdBits (w : Word) : RegIx := w.extractLsb' 7 5

/-- `W[19:15]`. -/
abbrev rs1Bits (w : Word) : RegIx := w.extractLsb' 15 5

/-- `W[24:20]`. -/
abbrev rs2Bits (w : Word) : RegIx := w.extractLsb' 20 5

/-- `W[31:12]`. -/
abbrev immUBits (w : Word) : BitVec 20 := w.extractLsb' 12 20

/-- `W[31:20]`. -/
abbrev immIBits (w : Word) : BitVec 12 := w.extractLsb' 20 12

/-- `W[31:25] ++ W[11:7]`. -/
abbrev immSBits (w : Word) : BitVec 12 := w.extractLsb' 25 7 ++ w.extractLsb' 7 5

/-- `W[31] ++ W[7] ++ W[30:25] ++ W[11:8]`. -/
abbrev immBBits (w : Word) : BitVec 12 :=
  w.extractLsb' 31 1 ++ w.extractLsb' 7 1 ++ w.extractLsb' 25 6 ++ w.extractLsb' 8 4

/-- `W[31] ++ W[19:12] ++ W[20] ++ W[30:21]`. -/
abbrev immJBits (w : Word) : BitVec 20 :=
  w.extractLsb' 31 1 ++ w.extractLsb' 12 8 ++ w.extractLsb' 20 1 ++ w.extractLsb' 21 10

/-- A step on any word with `W & mask = pattern` delivers the record with the given opcode identifier and operands, in
every state that runs REF, whatever its register tables, address and earlier result, and changes nothing else. -/
def wordsDeliver (mask pattern : Word) (opcode : Nat) (ops : RegTab → Word → List Operand) : Prop :=
  ∀ (s : State) (w : Word), s.runsRef → s.presents w → w &&& mask = pattern →
    step s = .next { s with result := some (delivered opcode (ops s.regtab w) s.addr) }

/-- A word is not recognised by REF, as spec/30_encoding.md R82 lists it by opcode field, funct3 and funct7. -/
def reservedInRef (w : Word) : Prop :=
  let op := w.extractLsb' 0 7
  let f3 := w.extractLsb' 12 3
  let f7 := w.extractLsb' 25 7
  op ∉ [0x03#7, 0x07#7, 0x13#7, 0x17#7, 0x23#7, 0x27#7, 0x33#7, 0x37#7, 0x53#7, 0x63#7, 0x67#7, 0x6F#7, 0x73#7] ∨
  (op = 0x33#7 ∧ f7 ≠ 0#7 ∧ ¬ (f7 = 0x20#7 ∧ (f3 = 0#3 ∨ f3 = 5#3))) ∨
  (op = 0x13#7 ∧ f3 = 1#3 ∧ f7 ≠ 0#7) ∨
  (op = 0x13#7 ∧ f3 = 5#3 ∧ f7 ≠ 0#7 ∧ f7 ≠ 0x20#7) ∨
  (op = 0x03#7 ∧ (f3 = 3#3 ∨ f3 = 6#3 ∨ f3 = 7#3)) ∨
  (op = 0x23#7 ∧ 3#3 ≤ f3) ∨
  ((op = 0x07#7 ∨ op = 0x27#7) ∧ f3 ≠ 2#3 ∧ f3 ≠ 3#3) ∨
  (op = 0x63#7 ∧ (f3 = 2#3 ∨ f3 = 3#3)) ∨
  (op = 0x67#7 ∧ f3 ≠ 0#3) ∨
  (op = 0x53#7 ∧ ((f7 ≠ 0x10#7 ∧ f7 ≠ 0x11#7 ∧ f7 ≠ 0x70#7 ∧ f7 ≠ 0x78#7) ∨ f3 ≠ 0#3 ∨
    ((f7 = 0x70#7 ∨ f7 = 0x78#7) ∧ w.extractLsb' 20 5 ≠ 0#5))) ∨
  (op = 0x73#7 ∧ w.extractLsb' 7 25 ≠ 0#25 ∧ w.extractLsb' 7 25 ≠ 0x2000#25)

/-- The word of T-REG6 with the register indices `a`, `b`, `c` and the seven bits `u` that nothing tests or uses
(spec/95_test_vectors.md section 2.3). -/
def wordReg6 (u : BitVec 7) (c b a : BitVec 6) : Word := u ++ c ++ b ++ a ++ 0x0B#7

end Sys2Proof.Machine
end

