-- ==== Sys2Proof/Certificates/Slice0/Obligations.lean ====
section
/-! DEFINITION. The statements for the provers. Each is about the machine over every state and operand its premises
admit; none is about a program. The widths and limits, the Decode Table and the register tables are parameters that the
state holds (spec/00_scope.md R6, spec/10_state.md R24, R33), so a statement over every state is over every value of
them; only the statement of what reset leaves reads their values there. -/

open Sys2Proof Sys2Proof.Machine

/-! ## When a call has no meaning -/

/-- The spec gives the block a meaning only when `FEATURES` is all ones (R25); any other value is refused. That this
is looked at before everything else, so that the refusal is this one whatever the rest of the state holds, is the
model's order (log 6, DEDUCED). -/
def Obligations.FeaturesOtherThanAllOnesAreRefused : Prop :=
  ∀ s : State, s.features ≠ 2 ^ s.params.featureW - 1 → step s = .refused .featuresNotAllOnes

/-- A length, an address or a register identifier that its port has no bits for (R26) is refused before any byte is
read. The values are numbers in the model and no caller can present such a one: the model's own refusal (log 6,
DEDUCED). -/
def Obligations.InputsWiderThanTheirPortsAreRefused : Prop :=
  ∀ s : State, s.features = 2 ^ s.params.featureW - 1 →
    (2 ^ s.params.lenW ≤ s.len ∨ 2 ^ s.params.addrW ≤ s.addr ∨
      ∃ (c : RegClass) (i : Nat) (h : i < 32), 2 ^ s.params.regW ≤ (classTable s.regtab c)[i]'h) →
    step s = .refused .valueWiderThanPort

/-- A table fails the model's check exactly when some leaf or branch breaks one of WF1 to WF10 (R75), or an opcode
identifier has more than `OPC_W` bits (log 1); `illFormed` spells these conditions out. The call refuses such a table as a whole;
that it does so before the length is looked at is the model's order (log 6, DEDUCED). -/
def Obligations.IllFormedTablesAreRefused : Prop :=
  (∀ (p : Params) (t : Node), illFormed p t ↔ tableOk p t = false) ∧
  ∀ s : State, s.features = 2 ^ s.params.featureW - 1 → portsFit s = true → illFormed s.params s.table →
    step s = .refused .illFormedTable

/-- A call whose span lacks any of bytes `0` to `len - 1` breaks the caller's obligation of R343 (b) and is refused,
also when the bytes that the call would read are there. That this comes before `len < 4` is decided is the model's
order (log 6, DEDUCED). -/
def Obligations.LengthsBeyondTheSpanAreRefused : Prop :=
  ∀ s : State, s.configured → (∃ k < s.len, bufRead s k = none) → step s = .refused .lengthBeyondSpan

/-- No call ends in a fault, whatever the state holds: it ends with a result or is refused before any byte is read. The
spec's model "has no stuck state and needs no fault outcome" on the calls it gives a meaning to (R309); of the calls
outside it this is the model's own form (log 6). -/
def Obligations.NoCallFaults : Prop := ∀ (s : State) (f : Fault), step s ≠ .fault f

/-! ## The complete call -/

/-- The step is the complete call of R154: on a span presented with a truthful length it ends with the result of
`decodeCall` and changes nothing else, whatever the well-formed table, the register tables, the widths and the limits
are. -/
def Obligations.StepIsTheCompleteCall : Prop :=
  ∀ (s : State) (bs : List Byte) (a : Nat), (present bs a s).configured →
    step (present bs a s) =
      .next { present bs a s with result := some (decodeCall s.table s.regtab bs a) }

/-- Every call with a truthful length (R343 b) ends, with a result that is one of the four kinds of R300 and nothing else
changed (R309). -/
def Obligations.EveryTruthfulCallEndsWithAResult : Prop :=
  ∀ s : State, s.configured → s.truthful → ∃ r : Result, resultOk s.params r ∧
    step s = .next { s with result := some r }

/-- With a truthful `len` of 0 to 3 the call ends with InsufficientInput and consumes 0, whatever bytes the span holds;
any truthful `len` above 4 behaves as 4 (R101; R343 b). -/
def Obligations.LengthBelowFourIsInsufficientInput : Prop :=
  (∀ s : State, s.configured → s.truthful → s.len < 4 →
    step s = .next { s with result := some (failed .insufficientInput 0#3) }) ∧
  ∀ (s : State) (n : Nat) (r : Result), s.configured → 4 ≤ n → n < 2 ^ s.params.lenW →
    State.truthful { s with len := n } →
    (step { s with len := n } = .next { s with len := n, result := some r } ↔
      step { s with len := 4 } = .next { s with len := 4, result := some r })

/-- A word whose walk ends at the unmatched terminal ends the call with UnrecognizedEncoding, consumed 4, no record
(R302). -/
def Obligations.UnmatchedWordIsUnrecognizedEncoding : Prop :=
  ∀ (s : State) (w : Word), s.configured → s.presents w → walk w s.table = none →
    step s = .next { s with result := some (failed .unrecognizedEncoding 4#3) }

/-- A matched leaf fails with InvalidOperand, consumed 4 and no record, when some register operand's raw index is 32
or more, and otherwise succeeds with one operand for each of the leaf's specifications (R133, R303). -/
def Obligations.MatchedLeafFailsExactlyOnABadIndex : Prop :=
  ∀ (s : State) (w : Word) (l : Leaf), s.configured → s.presents w → walk w s.table = some l →
    (badIndex l w → step s = .next { s with result := some (failed .invalidOperand 4#3) }) ∧
    (¬ badIndex l w → ∃ ops : List Operand, ops.length = l.operands.length ∧
      step s = .next { s with result := some (delivered l.opcode ops s.addr) })

/-- Operand `j` of a record is the result of resolving operand specification `j` of the leaf: nothing is reordered,
merged, dropped or inserted (R150). -/
def Obligations.OperandsFollowTheLeafInOrder : Prop :=
  ∀ (s : State) (w : Word) (l : Leaf) (ops : List Operand), s.configured → s.presents w → walk w s.table = some l →
    (step s = .next { s with result := some (delivered l.opcode ops s.addr) } ↔
      ops.map some = l.operands.map (resolveSpec s.regtab w))

/-- The index `K = 32` is the first that is rejected, in each class, through T-REG6, whose register fields have 6
bits: 31 gives the class's last entry and 32 fails (R133; spec/95_test_vectors.md section 2.3). The seven bits `u`
that nothing tests do not matter. -/
def Obligations.SixBitRegisterFieldsAreBoundChecked : Prop :=
  ∀ (s : State) (u : BitVec 7) (a b c : BitVec 6),
    s.configured → s.table = tableReg6 → s.presents (wordReg6 u c b a) →
    (∀ (ha : a.toNat < 32) (hb : b.toNat < 32) (hc : c.toNat < 32),
      endsWith (step s) s (delivered 100
        [.reg (s.regtab.gpr[a.toNat]'ha), .reg (s.regtab.fpr32[b.toNat]'hb), .reg (s.regtab.fpr64[c.toNat]'hc)]
        s.addr)) ∧
    (32 ≤ a.toNat ∨ 32 ≤ b.toNat ∨ 32 ≤ c.toNat → endsWith (step s) s (failed .invalidOperand 4#3))

/-- The five laws of R158, which the spec derives from R154: (a) consumed 0, InsufficientInput and `len < 4` are one;
(b) otherwise 4 are consumed; (c) a success has the matched leaf's operand count, size 4 and the address; (d) with the
same word and configuration only the record's address follows `addr`; (e) where every register field is at most 5 bits
wide, InvalidOperand never comes, and REF is such a table. -/
def Obligations.CallLawsHold : Prop :=
  (∀ (s : State) (r : Result), s.configured → step s = .next { s with result := some r } →
    (r.consumed = 0#3 ↔ r.status = .insufficientInput) ∧ (r.status = .insufficientInput ↔ s.len < 4) ∧
    (4 ≤ s.len → r.consumed = 4#3)) ∧
  (∀ (s : State) (w : Word) (r : Result), s.configured → s.presents w →
    step s = .next { s with result := some r } → r.status = .success →
    ∃ (l : Leaf) (ops : List Operand), walk w s.table = some l ∧ ops.length = l.operands.length ∧
      r.record = some ⟨l.opcode, ops, 4#3, s.addr⟩) ∧
  (∀ (s t : State) (w : Word) (r : Result), s.configured → t.configured → s.presents w → t.presents w →
    t.table = s.table → t.regtab = s.regtab →
    step s = .next { s with result := some r } →
    endsWith (step t) t
      ⟨r.status, r.consumed, r.record.map fun rc => ⟨rc.opcode, rc.operands, rc.size, t.addr⟩⟩) ∧
  (∀ (s : State) (r : Result), s.configured → narrowRegisters s.table → step s = .next { s with result := some r } →
    r.status ≠ .invalidOperand) ∧
  narrowRegisters ref

/-! ## No hidden state -/

/-- The result of a call does not depend on any earlier call's result, nor on a reset between two
calls (R20, R340). What a reset leaves alone, the tables and the inputs, is the model's choice (log 4). -/
def Obligations.EarlierResultsDoNotMatter : Prop :=
  (∀ (s : State) (r : Option Result), step { s with result := r } = step s) ∧
  ∀ s : State, step (assertReset s) = step s

/-- The same inputs presented again give the same result: a call keeps no position in the span (R102, R306). -/
def Obligations.RepeatingACallChangesNothing : Prop :=
  ∀ s t : State, step s = .next t → step t = .next t

/-- A step leaves the configuration, the length, the address and every byte of the span as they were; only the result
is driven (R20, R156). -/
def Obligations.StepChangesOnlyTheResult : Prop :=
  ∀ s t : State, step s = .next t →
    t.params = s.params ∧ t.table = s.table ∧ t.regtab = s.regtab ∧ t.features = s.features ∧
    t.len = s.len ∧ t.addr = s.addr ∧ (∀ k, readByte t.span k = readByte s.span k) ∧ t.result.isSome = true

/-- The frame of every instruction: it writes no table, no input and no byte of the span; only the result changes. -/
def Obligations.MeaningsChangeOnlyTheResult : Prop :=
  ∀ (i : Instr) (s t : State), exec i s = .next t →
    t.params = s.params ∧ t.table = s.table ∧ t.regtab = s.regtab ∧ t.features = s.features ∧
    t.len = s.len ∧ t.addr = s.addr ∧ (∀ k, readByte t.span k = readByte s.span k) ∧ t.result.isSome = true

/-- When the presented bytes decode to an instruction, the step is that instruction's meaning: under REF, and under
any table whose walk reaches a leaf of REF. -/
def Obligations.StepRunsTheDecodedInstruction : Prop :=
  (∀ (s : State) (w : Word) (i : Instr), s.runsRef → s.presents w →
    decode [w.extractLsb' 0 8, w.extractLsb' 8 8, w.extractLsb' 16 8, w.extractLsb' 24 8] = .ok i →
    step s = exec i s) ∧
  ∀ (s : State) (w : Word) (l : Leaf) (i : Instr), s.configured → s.presents w → walk w s.table = some l →
    instrOf l w = some i → step s = exec i s

/-- Every step keeps the invariant: the span stays in canonical form, and a result that is driven is one a call can
end with (consumed 0 or 4 as its status says, a record exactly on success, its opcode identifier valid, its operands
at most `MAX_OPERANDS`, every value within the width of its port). -/
def Obligations.StepKeepsInvariant : Prop :=
  ∀ s t : State, s.Inv → step s = .next t → t.Inv

/-- The machine after reset has the invariant. -/
def Obligations.ResetHasInvariant : Prop := State.reset.Inv

/-- What reset leaves (R32): `FEATURES` all ones and no result; and the tables the model loads (the spec's reference
values, log 2), REF and the reference numbering of R24. -/
def Obligations.ResetLeavesReferenceConfiguration : Prop :=
  State.reset.params = Params.defaults ∧ State.reset.features = 2 ^ 64 - 1 ∧ State.reset.result = none ∧ State.reset.configured ∧
  State.reset.table = ref ∧
  ∀ (i : Nat) (h : i < 32), State.reset.regtab.gpr[i]'h = 1 + i ∧
    State.reset.regtab.fpr32[i]'h = 33 + i ∧ State.reset.regtab.fpr64[i]'h = 65 + i

/-- A word placed for the next call is the word that call reads; no other byte of the span changes, and the canonical
form is kept. -/
def Obligations.PlacedWordIsPresented : Prop :=
  ∀ (s : State) (nbits w : Nat),
    (s.withFetchWord nbits w).presents (BitVec.ofNat 32 (w % 2 ^ nbits)) ∧
    (∀ k, 4 ≤ k → readByte (s.withFetchWord nbits w).span k = readByte s.span k) ∧
    (Memory.wf s.span = true → Memory.wf (s.withFetchWord nbits w).span = true)

/-! ## Decode Tables -/

/-- For a well-formed table a word walks to a leaf exactly when it satisfies a flat row of that leaf, and to unmatched
exactly when it satisfies no row; for REF those rows are the rows of `opcode_table.json`. This is the law R118, which
the spec derives from R110, R75 and R76. -/
def Obligations.WalkIsTheFlatPattern : Prop :=
  (∀ (p : Params) (t : Node) (w : Word), tableOk p t = true →
    (∀ l : Leaf, walk w t = some l ↔ ∃ r ∈ flatRows t, r.leaf = l ∧ w &&& r.mask = r.pattern) ∧
    (walk w t = none ↔ ∀ r ∈ flatRows t, w &&& r.mask ≠ r.pattern)) ∧
  (flatRows ref).Perm opcodeRows

/-- Two different leaves of a well-formed table are never reached by the same word. The spec derives this from R73 and
R110 (R78). -/
def Obligations.RowsOfAWellFormedTableAreDisjoint : Prop :=
  ∀ (p : Params) (t : Node), tableOk p t = true →
    (flatRows t).Pairwise fun a b => ∀ w : Word, ¬ (w &&& a.mask = a.pattern ∧ w &&& b.mask = b.pattern)

/-- A well-formed table is a correct construction of its own flat rows, and REF of the rows of `opcode_table.json`: no
word has two equally specific candidates, and the walk ends where the most-specific rule says (R77). -/
def Obligations.TablesConstructTheirRows : Prop :=
  (∀ (p : Params) (t : Node), tableOk p t = true → constructs t (flatRows t)) ∧ constructs ref opcodeRows

/-- The worked example of the most-specific rule (spec/95_test_vectors.md section 2.7): T-OVL is a correct
construction of the two overlapping rows; the list with a second row of 10 bits is rejected; the list of the other
pair is not, and its more specific row wins. -/
def Obligations.MoreSpecificRowWins : Prop :=
  constructs tableOvl [rowGen, rowSpec] ∧ flatRejected [rowGen, rowSpec, rowAlt] ∧
  ¬ flatRejected [rowGen, rowAlt] ∧
  ∀ w : Word, w &&& 0x000003FF#32 = 0x0000000B#32 → selectLeaf [rowGen, rowAlt] w = some leafAlt

/-- The walk of a well-formed table visits at most `DEPTH_MAX` branch nodes (R111), and REF's at most 4 (R80). -/
def Obligations.WalkDepthIsBounded : Prop :=
  (∀ (p : Params) (t : Node) (w : Word), tableOk p t = true → branchesVisited w t ≤ p.depthMax) ∧ ∀ w : Word, branchesVisited w ref ≤ 4

/-- The room that REF takes: it is well formed exactly when `DEPTH_MAX` is at least 4, `MAX_OPERANDS` at least 3 and
`OPC_W` wide enough for its identifiers 1 to 47 (R6; spec/92_eei_decisions.md D10). The width condition is log 1's. -/
def Obligations.ReferenceTableNeedsItsRoom : Prop :=
  ∀ p : Params, tableOk p ref = true ↔ 4 ≤ p.depthMax ∧ 3 ≤ p.maxOperands ∧ 47 < 2 ^ p.opcW

/-- The words REF does not recognise are exactly those that R82 names (it calls its list a reading aid; that the list
is exact follows from R80 and R81), and the call on such a word ends with UnrecognizedEncoding, consumed 4. -/
def Obligations.ReservedWordsAreUnrecognized : Prop :=
  (∀ w : Word, walk w ref = none ↔ reservedInRef w) ∧
  ∀ (s : State) (w : Word), s.runsRef → s.presents w → reservedInRef w →
    step s = .next { s with result := some (failed .unrecognizedEncoding 4#3) }

/-! ## Fields and resolvers -/

/-- The assembly is a bijection between four-byte sequences and words, its inverse `buf[k] = W[8k+7:8k]`; and for `len
>= 4` the result depends on the span only through the word. This is the law R104, which the spec derives from R100 and
R20. -/
def Obligations.AssemblyIsABijection : Prop :=
  (∀ w : Word, assemble (w.extractLsb' 0 8) (w.extractLsb' 8 8) (w.extractLsb' 16 8) (w.extractLsb' 24 8) = w) ∧
  (∀ b0 b1 b2 b3 : Byte,
    (assemble b0 b1 b2 b3).extractLsb' 0 8 = b0 ∧ (assemble b0 b1 b2 b3).extractLsb' 8 8 = b1 ∧
    (assemble b0 b1 b2 b3).extractLsb' 16 8 = b2 ∧ (assemble b0 b1 b2 b3).extractLsb' 24 8 = b3) ∧
  ∀ (s : State) (m : Memory) (w : Word) (r : Result), s.configured → s.presents w →
    State.presents { s with span := m } w →
    step s = .next { s with result := some r } →
    step { s with span := m } = .next { s with span := m, result := some r }

/-- Bit `j` of a range is bit `lo + j` of the word; ranges are joined with the first one most significant; the whole
word is its own field (R72). -/
def Obligations.FieldTakesTheNamedBits : Prop :=
  (∀ (w : Word) (hi lo j : Nat), lo ≤ hi → hi ≤ 31 →
    (field w [⟨hi, lo⟩]).testBit j = (decide (j ≤ hi - lo) && w.getLsbD (lo + j))) ∧
  (∀ (w : Word) (rs ss : List BitRange), field w (rs ++ ss) = field w rs * 2 ^ rawWidth ss + field w ss) ∧
  ∀ w : Word, field w [⟨31, 0⟩] = w.toNat

/-- Each register resolver compares the raw index with the 32 elements of its class: below, it gives the class's
identifier at that index; from 32 on it rejects (R130, R131, R132). -/
def Obligations.RegisterResolversCheckTheElementCount : Prop :=
  ∀ (t : RegTab) (raw : Nat),
    (∀ h : raw < 32, resolveGpr t raw = some (.reg (t.gpr[raw]'h)) ∧
      resolveFpr32 t raw = some (.reg (t.fpr32[raw]'h)) ∧ resolveFpr64 t raw = some (.reg (t.fpr64[raw]'h))) ∧
    (32 ≤ raw → resolveGpr t raw = none ∧ resolveFpr32 t raw = none ∧ resolveFpr64 t raw = none)

/-- An unsigned immediate is the raw field verbatim, never negative (R140). -/
def Obligations.UnsignedImmediateIsVerbatim : Prop :=
  ∀ raw : Nat, raw < 2 ^ 32 → ∃ v : Imm, resolveUimm raw = some (.imm v) ∧ v.toInt = raw

/-- A signed immediate always resolves; it is the number of `-2^(N-1) .. 2^(N-1) - 1` that agrees with the raw field
modulo `2^N`, negative exactly when bit `N-1` is set (R141). -/
def Obligations.SignedImmediateIsTwosComplement : Prop :=
  ∀ n raw : Nat, 1 ≤ n → n ≤ 64 → ∃ v : Imm, resolveSimm n raw = some (.imm v) ∧
    -(2 ^ (n - 1) : Int) ≤ v.toInt ∧ v.toInt ≤ 2 ^ (n - 1) - 1 ∧
    v.toInt % 2 ^ n = (raw : Int) % 2 ^ n ∧ (v.toInt < 0 ↔ raw.testBit (n - 1) = true)

/-- An immediate with an implicit low bit always resolves; it is the even number of `-2^(N-1) .. 2^(N-1) - 2` that
agrees with twice the raw field modulo `2^N`, its sign being bit `N-2` of the raw field (R142). -/
def Obligations.ImplicitLowBitImmediateIsShiftedFirst : Prop :=
  ∀ n raw : Nat, 2 ≤ n → n ≤ 64 → ∃ v : Imm, resolveSimmLsl1 n raw = some (.imm v) ∧
    -(2 ^ (n - 1) : Int) ≤ v.toInt ∧ v.toInt ≤ 2 ^ (n - 1) - 2 ∧ v.toInt % 2 = 0 ∧
    v.toInt % 2 ^ n = (2 * raw : Int) % 2 ^ n ∧ (v.toInt < 0 ↔ raw.testBit (n - 2) = true)

/-- The identities of R146, which the spec derives from R140 to R142 and R9: `sext_N` agrees with its argument modulo
`2^N`; the shifted kind is twice the sign extension at one bit less; a signed field narrower than `N` is its raw
value. -/
def Obligations.ImmediateIdentitiesHold : Prop :=
  (∀ n v : Nat, 1 ≤ n → n ≤ 64 → (sext n v).toInt % 2 ^ n = (v : Int) % 2 ^ n) ∧
  (∀ n rw raw : Nat, rw ≤ n - 1 → 2 ≤ n → n ≤ 64 → raw < 2 ^ rw →
    ∃ v : Imm, resolveSimmLsl1 n raw = some (.imm v) ∧ v.toInt = 2 * (sext (n - 1) raw).toInt) ∧
  ∀ n rw raw : Nat, rw < n → n ≤ 64 → raw < 2 ^ rw →
    ∃ v : Imm, resolveSimm n raw = some (.imm v) ∧ v.toInt = raw

/-- The output ports of a call (R27, R151, R300). On success: `MAX_OPERANDS` slots, the operands from slot 0 on with
their tags and values, and every slot from `nops` on NONE and 0; `rec.nops` has 4 bits, so at most 15 operands. On
each failure: the status code 1, 2 or 3 and the consumed size 0 or 4. -/
def Obligations.PortsCarryTheRecord : Prop :=
  (∀ (p : Params) (opcode : Nat) (ops : List Operand) (a a' : Nat),
    ops.length ≤ p.maxOperands → p.maxOperands ≤ 15 →
    let q := portsOf p (delivered opcode ops a) a'
    q.status = 0#2 ∧ q.consumed = 4#3 ∧ q.opcode = opcode ∧ q.nops.toNat = ops.length ∧ q.size = 4#3 ∧ q.addr = a ∧
    q.slots.length = p.maxOperands ∧
    (∀ (j : Nat) (id : Nat), ops[j]? = some (.reg id) → id < 2 ^ 64 →
      ∃ v : BitVec 64, q.slots[j]? = some ⟨1#2, v⟩ ∧ v.toNat = id) ∧
    (∀ (j : Nat) (v : Imm), ops[j]? = some (.imm v) → q.slots[j]? = some ⟨2#2, v⟩) ∧
    ∀ j : Nat, ops.length ≤ j → j < p.maxOperands → q.slots[j]? = some ⟨0#2, 0#64⟩) ∧
  ∀ (s : State) (r : Result), s.configured → step s = .next { s with result := some r } →
    let q := portsOf s.params r s.addr
    (r.status = .insufficientInput → q.status = 1#2 ∧ q.consumed = 0#3) ∧
    (r.status = .unrecognizedEncoding → q.status = 2#2 ∧ q.consumed = 4#3) ∧
    (r.status = .invalidOperand → q.status = 3#2 ∧ q.consumed = 4#3)

/-! ## Encoding -/

/-- Decoding the bytes of an instruction gives the instruction back, for every instruction and every value of its
fields. -/
def Obligations.DecodeInvertsEncode : Prop := ∀ i : Instr, decode (encodeBytes i) = .ok i

/-- A word that REF recognises is the word of the instruction it decodes to: no bit of it is dropped. -/
def Obligations.EncodeInvertsDecode : Prop := ∀ (w : Word) (i : Instr), decodeWord w = .ok i → encode i = w

/-- Words written out from the encodings of R81, one for each family, decode to what they stand for; the source's own
example is the first. -/
def Obligations.WrittenOutWordsDecode : Prop :=
  decode [0x13#8, 0x05#8, 0x10#8, 0x00#8] = .ok (.addi 10#5 0#5 1#12) ∧
  decodeWord 0b00010010001101000101000010110111#32 = .ok (.lui 1#5 0x12345#20) ∧
  decodeWord 0b10100010001011111100001111101111#32 = .ok (.jal 7#5 0b11111110000100010001#20) ∧
  decodeWord 0b00011011111110110000110101100011#32 = .ok (.beq 22#5 31#5 0b000011011101#12) ∧
  decodeWord 0b00011100000111110010001010000011#32 = .ok (.lw 5#5 30#5 0b000111000001#12) ∧
  decodeWord 0b11011001101010111010001100100011#32 = .ok (.sw 26#5 23#5 0b110110000110#12) ∧
  decodeWord 0b01000000010100100101011110010011#32 = .ok (.srai 15#5 4#5 5#5) ∧
  decodeWord 0b01000000011101110000101010110011#32 = .ok (.sub 21#5 14#5 7#5) ∧
  decodeWord 0b00000000000100000000000001110011#32 = .ok .ebreak ∧
  decodeWord 0b01100000100110100011101110100111#32 = .ok (.fsd 9#5 20#5 0b011000010111#12) ∧
  decodeWord 0b11100000000000011000010001010011#32 = .ok (.fmvXW 8#5 3#5)

/-! ## The leaves of REF: what a word that reaches a leaf delivers

REF and its records are the spec's own reference contents (spec/30_encoding.md R79 to R81, decision D12); the register
tables are any. -/

/-- Every upper-immediate and jump word of REF delivers the record its rule writes (R200 to R203). -/
def Obligations.UpperJumpWordsDeliverTheirRecords : Prop :=
  wordsDeliver 0x0000007F#32 0x00000037#32 1
    (fun rt w => [gprOf rt (rdBits w), unsignedImm (immUBits w)]) ∧
  wordsDeliver 0x0000007F#32 0x00000017#32 2
    (fun rt w => [gprOf rt (rdBits w), unsignedImm (immUBits w)]) ∧
  wordsDeliver 0x0000007F#32 0x0000006F#32 3
    (fun rt w => [gprOf rt (rdBits w), evenImm (immJBits w)]) ∧
  wordsDeliver 0x0000707F#32 0x00000067#32 4
    (fun rt w => [gprOf rt (rdBits w), gprOf rt (rs1Bits w), signedImm (immIBits w)])

/-- Every conditional-branch word of REF delivers the record its rule writes (R204 to R209). -/
def Obligations.BranchWordsDeliverTheirRecords : Prop :=
  wordsDeliver 0x0000707F#32 0x00000063#32 5
    (fun rt w => [gprOf rt (rs1Bits w), gprOf rt (rs2Bits w), evenImm (immBBits w)]) ∧
  wordsDeliver 0x0000707F#32 0x00001063#32 6
    (fun rt w => [gprOf rt (rs1Bits w), gprOf rt (rs2Bits w), evenImm (immBBits w)]) ∧
  wordsDeliver 0x0000707F#32 0x00004063#32 7
    (fun rt w => [gprOf rt (rs1Bits w), gprOf rt (rs2Bits w), evenImm (immBBits w)]) ∧
  wordsDeliver 0x0000707F#32 0x00005063#32 8
    (fun rt w => [gprOf rt (rs1Bits w), gprOf rt (rs2Bits w), evenImm (immBBits w)]) ∧
  wordsDeliver 0x0000707F#32 0x00006063#32 9
    (fun rt w => [gprOf rt (rs1Bits w), gprOf rt (rs2Bits w), evenImm (immBBits w)]) ∧
  wordsDeliver 0x0000707F#32 0x00007063#32 10
    (fun rt w => [gprOf rt (rs1Bits w), gprOf rt (rs2Bits w), evenImm (immBBits w)])

/-- Every load word of REF delivers the record its rule writes (R210 to R214). -/
def Obligations.LoadWordsDeliverTheirRecords : Prop :=
  wordsDeliver 0x0000707F#32 0x00000003#32 11
    (fun rt w => [gprOf rt (rdBits w), gprOf rt (rs1Bits w), signedImm (immIBits w)]) ∧
  wordsDeliver 0x0000707F#32 0x00001003#32 12
    (fun rt w => [gprOf rt (rdBits w), gprOf rt (rs1Bits w), signedImm (immIBits w)]) ∧
  wordsDeliver 0x0000707F#32 0x00002003#32 13
    (fun rt w => [gprOf rt (rdBits w), gprOf rt (rs1Bits w), signedImm (immIBits w)]) ∧
  wordsDeliver 0x0000707F#32 0x00004003#32 14
    (fun rt w => [gprOf rt (rdBits w), gprOf rt (rs1Bits w), signedImm (immIBits w)]) ∧
  wordsDeliver 0x0000707F#32 0x00005003#32 15
    (fun rt w => [gprOf rt (rdBits w), gprOf rt (rs1Bits w), signedImm (immIBits w)])

/-- Every store word of REF delivers the record its rule writes (R215 to R217). -/
def Obligations.StoreWordsDeliverTheirRecords : Prop :=
  wordsDeliver 0x0000707F#32 0x00000023#32 16
    (fun rt w => [gprOf rt (rs2Bits w), gprOf rt (rs1Bits w), signedImm (immSBits w)]) ∧
  wordsDeliver 0x0000707F#32 0x00001023#32 17
    (fun rt w => [gprOf rt (rs2Bits w), gprOf rt (rs1Bits w), signedImm (immSBits w)]) ∧
  wordsDeliver 0x0000707F#32 0x00002023#32 18
    (fun rt w => [gprOf rt (rs2Bits w), gprOf rt (rs1Bits w), signedImm (immSBits w)])

/-- Every register-immediate word of REF delivers the record its rule writes (R218 to R223). -/
def Obligations.RegImmWordsDeliverTheirRecords : Prop :=
  wordsDeliver 0x0000707F#32 0x00000013#32 19
    (fun rt w => [gprOf rt (rdBits w), gprOf rt (rs1Bits w), signedImm (immIBits w)]) ∧
  wordsDeliver 0x0000707F#32 0x00002013#32 20
    (fun rt w => [gprOf rt (rdBits w), gprOf rt (rs1Bits w), signedImm (immIBits w)]) ∧
  wordsDeliver 0x0000707F#32 0x00003013#32 21
    (fun rt w => [gprOf rt (rdBits w), gprOf rt (rs1Bits w), signedImm (immIBits w)]) ∧
  wordsDeliver 0x0000707F#32 0x00004013#32 22
    (fun rt w => [gprOf rt (rdBits w), gprOf rt (rs1Bits w), signedImm (immIBits w)]) ∧
  wordsDeliver 0x0000707F#32 0x00006013#32 23
    (fun rt w => [gprOf rt (rdBits w), gprOf rt (rs1Bits w), signedImm (immIBits w)]) ∧
  wordsDeliver 0x0000707F#32 0x00007013#32 24
    (fun rt w => [gprOf rt (rdBits w), gprOf rt (rs1Bits w), signedImm (immIBits w)])

/-- Every shift-immediate word of REF delivers the record its rule writes (R224 to R226). -/
def Obligations.ShiftImmWordsDeliverTheirRecords : Prop :=
  wordsDeliver 0xFE00707F#32 0x00001013#32 25
    (fun rt w => [gprOf rt (rdBits w), gprOf rt (rs1Bits w), unsignedImm (rs2Bits w)]) ∧
  wordsDeliver 0xFE00707F#32 0x00005013#32 26
    (fun rt w => [gprOf rt (rdBits w), gprOf rt (rs1Bits w), unsignedImm (rs2Bits w)]) ∧
  wordsDeliver 0xFE00707F#32 0x40005013#32 27
    (fun rt w => [gprOf rt (rdBits w), gprOf rt (rs1Bits w), unsignedImm (rs2Bits w)])

/-- Every register-register word of REF delivers the record its rule writes (R227 to R236). -/
def Obligations.RegRegWordsDeliverTheirRecords : Prop :=
  wordsDeliver 0xFE00707F#32 0x00000033#32 28
    (fun rt w => [gprOf rt (rdBits w), gprOf rt (rs1Bits w), gprOf rt (rs2Bits w)]) ∧
  wordsDeliver 0xFE00707F#32 0x40000033#32 29
    (fun rt w => [gprOf rt (rdBits w), gprOf rt (rs1Bits w), gprOf rt (rs2Bits w)]) ∧
  wordsDeliver 0xFE00707F#32 0x00001033#32 30
    (fun rt w => [gprOf rt (rdBits w), gprOf rt (rs1Bits w), gprOf rt (rs2Bits w)]) ∧
  wordsDeliver 0xFE00707F#32 0x00002033#32 31
    (fun rt w => [gprOf rt (rdBits w), gprOf rt (rs1Bits w), gprOf rt (rs2Bits w)]) ∧
  wordsDeliver 0xFE00707F#32 0x00003033#32 32
    (fun rt w => [gprOf rt (rdBits w), gprOf rt (rs1Bits w), gprOf rt (rs2Bits w)]) ∧
  wordsDeliver 0xFE00707F#32 0x00004033#32 33
    (fun rt w => [gprOf rt (rdBits w), gprOf rt (rs1Bits w), gprOf rt (rs2Bits w)]) ∧
  wordsDeliver 0xFE00707F#32 0x00005033#32 34
    (fun rt w => [gprOf rt (rdBits w), gprOf rt (rs1Bits w), gprOf rt (rs2Bits w)]) ∧
  wordsDeliver 0xFE00707F#32 0x40005033#32 35
    (fun rt w => [gprOf rt (rdBits w), gprOf rt (rs1Bits w), gprOf rt (rs2Bits w)]) ∧
  wordsDeliver 0xFE00707F#32 0x00006033#32 36
    (fun rt w => [gprOf rt (rdBits w), gprOf rt (rs1Bits w), gprOf rt (rs2Bits w)]) ∧
  wordsDeliver 0xFE00707F#32 0x00007033#32 37
    (fun rt w => [gprOf rt (rdBits w), gprOf rt (rs1Bits w), gprOf rt (rs2Bits w)])

/-- Every system word of REF delivers the record its rule writes (R237 to R238). -/
def Obligations.SystemWordsDeliverTheirRecords : Prop :=
  wordsDeliver 0xFFFFFFFF#32 0x00000073#32 38
    (fun _ _ => []) ∧
  wordsDeliver 0xFFFFFFFF#32 0x00100073#32 39
    (fun _ _ => [])

/-- Every float load and store word of REF delivers the record its rule writes (R250 to R253). -/
def Obligations.FloatMemWordsDeliverTheirRecords : Prop :=
  wordsDeliver 0x0000707F#32 0x00002007#32 40
    (fun rt w => [fpr32Of rt (rdBits w), gprOf rt (rs1Bits w), signedImm (immIBits w)]) ∧
  wordsDeliver 0x0000707F#32 0x00003007#32 41
    (fun rt w => [fpr64Of rt (rdBits w), gprOf rt (rs1Bits w), signedImm (immIBits w)]) ∧
  wordsDeliver 0x0000707F#32 0x00002027#32 42
    (fun rt w => [fpr32Of rt (rs2Bits w), gprOf rt (rs1Bits w), signedImm (immSBits w)]) ∧
  wordsDeliver 0x0000707F#32 0x00003027#32 43
    (fun rt w => [fpr64Of rt (rs2Bits w), gprOf rt (rs1Bits w), signedImm (immSBits w)])

/-- Every float register and move word of REF delivers the record its rule writes (R254 to R257). -/
def Obligations.FloatRegWordsDeliverTheirRecords : Prop :=
  wordsDeliver 0xFE00707F#32 0x20000053#32 44
    (fun rt w => [fpr32Of rt (rdBits w), fpr32Of rt (rs1Bits w), fpr32Of rt (rs2Bits w)]) ∧
  wordsDeliver 0xFE00707F#32 0x22000053#32 45
    (fun rt w => [fpr64Of rt (rdBits w), fpr64Of rt (rs1Bits w), fpr64Of rt (rs2Bits w)]) ∧
  wordsDeliver 0xFFF0707F#32 0xE0000053#32 46
    (fun rt w => [gprOf rt (rdBits w), fpr32Of rt (rs1Bits w)]) ∧
  wordsDeliver 0xFFF0707F#32 0xF0000053#32 47
    (fun rt w => [fpr32Of rt (rdBits w), gprOf rt (rs1Bits w)])

/-! ## The meanings complete: `exec` answers a next state for every state and every value of the fields -/

/-- Every upper-immediate and jump instruction completes in every state: it delivers its record (R200 to R203) and
changes nothing else. -/
def Obligations.UpperJumpMeaningsComplete : Prop :=
  (∀ (rd : RegIx) (imm : BitVec 20) (s : State),
    exec (.lui rd imm) s = .next { s with result := some (delivered 1
      [gprOf s.regtab rd, unsignedImm imm] s.addr) } ∧
    exec (.auipc rd imm) s = .next { s with result := some (delivered 2
      [gprOf s.regtab rd, unsignedImm imm] s.addr) }) ∧
  (∀ (rd : RegIx) (raw : BitVec 20) (s : State),
    exec (.jal rd raw) s = .next { s with result := some (delivered 3
      [gprOf s.regtab rd, evenImm raw] s.addr) }) ∧
  (∀ (rd rs1 : RegIx) (imm : BitVec 12) (s : State),
    exec (.jalr rd rs1 imm) s = .next { s with result := some (delivered 4
      [gprOf s.regtab rd, gprOf s.regtab rs1, signedImm imm] s.addr) })

/-- Every conditional-branch instruction completes in every state: it delivers its record (R204 to R209) and changes
nothing else. -/
def Obligations.BranchMeaningsComplete : Prop :=
  ∀ (rs1 rs2 : RegIx) (raw : BitVec 12) (s : State),
    exec (.beq rs1 rs2 raw) s = .next { s with result := some (delivered 5
      [gprOf s.regtab rs1, gprOf s.regtab rs2, evenImm raw] s.addr) } ∧
    exec (.bne rs1 rs2 raw) s = .next { s with result := some (delivered 6
      [gprOf s.regtab rs1, gprOf s.regtab rs2, evenImm raw] s.addr) } ∧
    exec (.blt rs1 rs2 raw) s = .next { s with result := some (delivered 7
      [gprOf s.regtab rs1, gprOf s.regtab rs2, evenImm raw] s.addr) } ∧
    exec (.bge rs1 rs2 raw) s = .next { s with result := some (delivered 8
      [gprOf s.regtab rs1, gprOf s.regtab rs2, evenImm raw] s.addr) } ∧
    exec (.bltu rs1 rs2 raw) s = .next { s with result := some (delivered 9
      [gprOf s.regtab rs1, gprOf s.regtab rs2, evenImm raw] s.addr) } ∧
    exec (.bgeu rs1 rs2 raw) s = .next { s with result := some (delivered 10
      [gprOf s.regtab rs1, gprOf s.regtab rs2, evenImm raw] s.addr) }

/-- Every load instruction completes in every state: it delivers its record (R210 to R214) and changes
nothing else. -/
def Obligations.LoadMeaningsComplete : Prop :=
  ∀ (rd rs1 : RegIx) (imm : BitVec 12) (s : State),
    exec (.lb rd rs1 imm) s = .next { s with result := some (delivered 11
      [gprOf s.regtab rd, gprOf s.regtab rs1, signedImm imm] s.addr) } ∧
    exec (.lh rd rs1 imm) s = .next { s with result := some (delivered 12
      [gprOf s.regtab rd, gprOf s.regtab rs1, signedImm imm] s.addr) } ∧
    exec (.lw rd rs1 imm) s = .next { s with result := some (delivered 13
      [gprOf s.regtab rd, gprOf s.regtab rs1, signedImm imm] s.addr) } ∧
    exec (.lbu rd rs1 imm) s = .next { s with result := some (delivered 14
      [gprOf s.regtab rd, gprOf s.regtab rs1, signedImm imm] s.addr) } ∧
    exec (.lhu rd rs1 imm) s = .next { s with result := some (delivered 15
      [gprOf s.regtab rd, gprOf s.regtab rs1, signedImm imm] s.addr) }

/-- Every store instruction completes in every state: it delivers its record (R215 to R217) and changes
nothing else. -/
def Obligations.StoreMeaningsComplete : Prop :=
  ∀ (rs2 rs1 : RegIx) (imm : BitVec 12) (s : State),
    exec (.sb rs2 rs1 imm) s = .next { s with result := some (delivered 16
      [gprOf s.regtab rs2, gprOf s.regtab rs1, signedImm imm] s.addr) } ∧
    exec (.sh rs2 rs1 imm) s = .next { s with result := some (delivered 17
      [gprOf s.regtab rs2, gprOf s.regtab rs1, signedImm imm] s.addr) } ∧
    exec (.sw rs2 rs1 imm) s = .next { s with result := some (delivered 18
      [gprOf s.regtab rs2, gprOf s.regtab rs1, signedImm imm] s.addr) }

/-- Every register-immediate instruction completes in every state: it delivers its record (R218 to R223) and changes
nothing else. -/
def Obligations.RegImmMeaningsComplete : Prop :=
  ∀ (rd rs1 : RegIx) (imm : BitVec 12) (s : State),
    exec (.addi rd rs1 imm) s = .next { s with result := some (delivered 19
      [gprOf s.regtab rd, gprOf s.regtab rs1, signedImm imm] s.addr) } ∧
    exec (.slti rd rs1 imm) s = .next { s with result := some (delivered 20
      [gprOf s.regtab rd, gprOf s.regtab rs1, signedImm imm] s.addr) } ∧
    exec (.sltiu rd rs1 imm) s = .next { s with result := some (delivered 21
      [gprOf s.regtab rd, gprOf s.regtab rs1, signedImm imm] s.addr) } ∧
    exec (.xori rd rs1 imm) s = .next { s with result := some (delivered 22
      [gprOf s.regtab rd, gprOf s.regtab rs1, signedImm imm] s.addr) } ∧
    exec (.ori rd rs1 imm) s = .next { s with result := some (delivered 23
      [gprOf s.regtab rd, gprOf s.regtab rs1, signedImm imm] s.addr) } ∧
    exec (.andi rd rs1 imm) s = .next { s with result := some (delivered 24
      [gprOf s.regtab rd, gprOf s.regtab rs1, signedImm imm] s.addr) }

/-- Every shift-immediate instruction completes in every state: it delivers its record (R224 to R226) and changes
nothing else. -/
def Obligations.ShiftImmMeaningsComplete : Prop :=
  ∀ (rd rs1 : RegIx) (shamt : BitVec 5) (s : State),
    exec (.slli rd rs1 shamt) s = .next { s with result := some (delivered 25
      [gprOf s.regtab rd, gprOf s.regtab rs1, unsignedImm shamt] s.addr) } ∧
    exec (.srli rd rs1 shamt) s = .next { s with result := some (delivered 26
      [gprOf s.regtab rd, gprOf s.regtab rs1, unsignedImm shamt] s.addr) } ∧
    exec (.srai rd rs1 shamt) s = .next { s with result := some (delivered 27
      [gprOf s.regtab rd, gprOf s.regtab rs1, unsignedImm shamt] s.addr) }

/-- Every register-register instruction completes in every state: it delivers its record (R227 to R236) and changes
nothing else. -/
def Obligations.RegRegMeaningsComplete : Prop :=
  ∀ (rd rs1 rs2 : RegIx) (s : State),
    exec (.add rd rs1 rs2) s = .next { s with result := some (delivered 28
      [gprOf s.regtab rd, gprOf s.regtab rs1, gprOf s.regtab rs2] s.addr) } ∧
    exec (.sub rd rs1 rs2) s = .next { s with result := some (delivered 29
      [gprOf s.regtab rd, gprOf s.regtab rs1, gprOf s.regtab rs2] s.addr) } ∧
    exec (.sll rd rs1 rs2) s = .next { s with result := some (delivered 30
      [gprOf s.regtab rd, gprOf s.regtab rs1, gprOf s.regtab rs2] s.addr) } ∧
    exec (.slt rd rs1 rs2) s = .next { s with result := some (delivered 31
      [gprOf s.regtab rd, gprOf s.regtab rs1, gprOf s.regtab rs2] s.addr) } ∧
    exec (.sltu rd rs1 rs2) s = .next { s with result := some (delivered 32
      [gprOf s.regtab rd, gprOf s.regtab rs1, gprOf s.regtab rs2] s.addr) } ∧
    exec (.xor rd rs1 rs2) s = .next { s with result := some (delivered 33
      [gprOf s.regtab rd, gprOf s.regtab rs1, gprOf s.regtab rs2] s.addr) } ∧
    exec (.srl rd rs1 rs2) s = .next { s with result := some (delivered 34
      [gprOf s.regtab rd, gprOf s.regtab rs1, gprOf s.regtab rs2] s.addr) } ∧
    exec (.sra rd rs1 rs2) s = .next { s with result := some (delivered 35
      [gprOf s.regtab rd, gprOf s.regtab rs1, gprOf s.regtab rs2] s.addr) } ∧
    exec (.or rd rs1 rs2) s = .next { s with result := some (delivered 36
      [gprOf s.regtab rd, gprOf s.regtab rs1, gprOf s.regtab rs2] s.addr) } ∧
    exec (.and rd rs1 rs2) s = .next { s with result := some (delivered 37
      [gprOf s.regtab rd, gprOf s.regtab rs1, gprOf s.regtab rs2] s.addr) }

/-- Every system instruction completes in every state: it delivers its record (R237 to R238) and changes
nothing else. -/
def Obligations.SystemMeaningsComplete : Prop :=
  ∀ (s : State),
    exec .ecall s = .next { s with result := some (delivered 38 [] s.addr) } ∧
    exec .ebreak s = .next { s with result := some (delivered 39 [] s.addr) }

/-- Every float load and store instruction completes in every state: it delivers its record (R250 to R253) and changes
nothing else. -/
def Obligations.FloatMemMeaningsComplete : Prop :=
  (∀ (rd rs1 : RegIx) (imm : BitVec 12) (s : State),
    exec (.flw rd rs1 imm) s = .next { s with result := some (delivered 40
      [fpr32Of s.regtab rd, gprOf s.regtab rs1, signedImm imm] s.addr) } ∧
    exec (.fld rd rs1 imm) s = .next { s with result := some (delivered 41
      [fpr64Of s.regtab rd, gprOf s.regtab rs1, signedImm imm] s.addr) }) ∧
  (∀ (rs2 rs1 : RegIx) (imm : BitVec 12) (s : State),
    exec (.fsw rs2 rs1 imm) s = .next { s with result := some (delivered 42
      [fpr32Of s.regtab rs2, gprOf s.regtab rs1, signedImm imm] s.addr) } ∧
    exec (.fsd rs2 rs1 imm) s = .next { s with result := some (delivered 43
      [fpr64Of s.regtab rs2, gprOf s.regtab rs1, signedImm imm] s.addr) })

/-- Every float register and move instruction completes in every state: it delivers its record (R254 to R257) and
changes nothing else. -/
def Obligations.FloatRegMeaningsComplete : Prop :=
  (∀ (rd rs1 rs2 : RegIx) (s : State),
    exec (.fsgnjS rd rs1 rs2) s = .next { s with result := some (delivered 44
      [fpr32Of s.regtab rd, fpr32Of s.regtab rs1, fpr32Of s.regtab rs2] s.addr) } ∧
    exec (.fsgnjD rd rs1 rs2) s = .next { s with result := some (delivered 45
      [fpr64Of s.regtab rd, fpr64Of s.regtab rs1, fpr64Of s.regtab rs2] s.addr) }) ∧
  (∀ (rd rs1 : RegIx) (s : State),
    exec (.fmvXW rd rs1) s = .next { s with result := some (delivered 46
      [gprOf s.regtab rd, fpr32Of s.regtab rs1] s.addr) } ∧
    exec (.fmvWX rd rs1) s = .next { s with result := some (delivered 47
      [fpr32Of s.regtab rd, gprOf s.regtab rs1] s.addr) })
end

