-- ==== Sys2Proof/Laws/Fields.lean ====
section
/-! SUPPORT. Fields of a word and the assembly of a word, as numbers and as Lean's own bit slices. -/

namespace Sys2Proof.Laws

theorem slice_lt (w : Word) (r : BitRange) : slice w r < 2 ^ rangeWidth r := Nat.mod_lt _ (by positivity)

/-- A raw field fits its raw width (R72). -/
theorem field_lt (w : Word) (rs : List BitRange) : field w rs < 2 ^ rawWidth rs := by
  induction rs with
  | nil => simp [field, rawWidth]
  | cons r rs ih =>
    have h := slice_lt w r
    rw [field, rawWidth, Nat.pow_add]
    nlinarith [Nat.mul_le_mul_right (2 ^ rawWidth rs) (Nat.succ_le_of_lt h)]

/-- A slice is Lean's own bit slice of the word. -/
theorem slice_eq_extractLsb (w : Word) (r : BitRange) : slice w r = (w.extractLsb' r.lo (rangeWidth r)).toNat := by
  simp [slice, Nat.shiftRight_eq_div_pow]

/-- The field of a single range is its slice. -/
theorem field_single (w : Word) (r : BitRange) : field w [r] = slice w r := by simp [field, rawWidth]

/-- Joining two bit vectors adds the shifted upper one. -/
theorem toNat_append_eq {m n : Nat} (x : BitVec m) (y : BitVec n) : (x ++ y).toNat = x.toNat * 2 ^ n + y.toNat := by
  rw [BitVec.toNat_append, ← Nat.shiftLeft_add_eq_or_of_lt y.isLt, Nat.shiftLeft_eq]

/-- The assembled word as a number: byte `k` weighs `2^(8k)` (R100). -/
theorem assemble_toNat (b0 b1 b2 b3 : Byte) :
    (assemble b0 b1 b2 b3).toNat =
      b0.toNat + 2 ^ 8 * b1.toNat + 2 ^ 16 * b2.toNat + 2 ^ 24 * b3.toNat := by
  simp only [assemble, toNat_append_eq]
  omega

end Sys2Proof.Laws
end

