-- ==== Sys2Proof/Laws/Memory.lean ====
section
/-! SUPPORT. The caller's span: reading after writing, and the canonical form, which every operation on a span keeps. -/

namespace Sys2Proof.Laws

open Sys2Proof.Machine

/-- A written byte reads back, and every other index reads as before. -/
theorem readByte_writeByte (m : Memory) (k j : Nat) (b : Byte) :
    readByte (writeByte m k b) j = if j = k then some b else readByte m j := by
  induction m with
  | nil => simp only [writeByte, readByte, eq_comm]
  | cons c rest ih =>
    obtain ⟨a, x⟩ := c
    simp only [writeByte]
    split_ifs with h1 h2 h3 h4 h5 <;> simp only [readByte] <;> grind

theorem readByte_writeByte_same (m : Memory) (k : Nat) (b : Byte) : readByte (writeByte m k b) k = some b := by
  simp [readByte_writeByte]

theorem readByte_writeByte_other (m : Memory) {k j : Nat} (b : Byte) (h : j ≠ k) :
    readByte (writeByte m k b) j = readByte m j := by
  simp [readByte_writeByte, h]

theorem spanAbove_writeByte (m : Memory) (lo k : Nat) (b : Byte) (hk : lo < k) (h : spanAbove lo m = true) :
    spanAbove lo (writeByte m k b) = true := by
  induction m generalizing lo with
  | nil => simpa [writeByte, spanAbove] using hk
  | cons c rest ih =>
    obtain ⟨a, x⟩ := c
    simp only [spanAbove, Bool.and_eq_true, decide_eq_true_eq] at h
    simp only [writeByte]
    split_ifs with h1 h2
    · simp [spanAbove, hk, h1, h.2]
    · subst h2; simp [spanAbove, h.1, h.2]
    · simp [spanAbove, h.1, ih a (by omega) h.2]

/-- Writing a byte keeps the canonical form. -/
theorem writeByte_wf (m : Memory) (k : Nat) (b : Byte) (h : Memory.wf m = true) :
    Memory.wf (writeByte m k b) = true := by
  cases m with
  | nil => rfl
  | cons c rest =>
    obtain ⟨a, x⟩ := c
    simp only [writeByte]
    split_ifs with h1 h2
    · simp only [Memory.wf] at h
      simp [Memory.wf, spanAbove, h1, h]
    · subst h2; simpa [Memory.wf] using h
    · exact spanAbove_writeByte rest a k b (by omega) h

theorem spanAbove_spanFrom (bs : List Byte) (lo k : Nat) (h : lo < k) : spanAbove lo (spanFrom k bs) = true := by
  induction bs generalizing lo k with
  | nil => rfl
  | cons b bs ih => simp [spanFrom, spanAbove, h, ih k (k + 1) (by omega)]

/-- The span of a list of bytes has the canonical form. -/
theorem spanOf_wf (bs : List Byte) : Memory.wf (spanOf bs) = true := by
  cases bs with
  | nil => rfl
  | cons b bs => exact spanAbove_spanFrom bs 0 1 (by omega)

theorem readByte_spanFrom (bs : List Byte) (k j : Nat) : readByte (spanFrom k bs) (k + j) = bs[j]? := by
  induction bs generalizing k j with
  | nil => rfl
  | cons b bs ih =>
    cases j with
    | zero => simp [spanFrom, readByte]
    | succ j =>
      have h : k + (j + 1) = (k + 1) + j := by omega
      rw [spanFrom, readByte, if_neg (by omega), h, ih]
      rfl

/-- The span of a list of bytes holds byte `j` of the list at index `j`, and no byte past its end. -/
theorem readByte_spanOf (bs : List Byte) (j : Nat) : readByte (spanOf bs) j = bs[j]? := by
  simpa [spanOf] using readByte_spanFrom bs 0 j

/-- Presenting a call's inputs leaves a span in canonical form. -/
theorem present_wf (bs : List Byte) (a : Nat) (s : State) : Memory.wf (present bs a s).span = true := spanOf_wf bs

/-- Byte `k` of a span after a word is written into bytes 0 to 3. -/
theorem readByte_writeWord (m : Memory) (w : Word) (k : Nat) :
    readByte (writeWord m w) k = if k < 4 then some (byteOf w k) else readByte m k := by
  simp only [writeWord, readByte_writeByte]
  split_ifs with h3 h2 h1 h0 h h h <;> first | (subst_vars; rfl) | omega

/-- A byte that reads is an entry of the span. -/
theorem mem_of_readByte {m : Memory} {k : Nat} (h : (readByte m k).isSome = true) : k ∈ m.map (·.1) := by
  induction m with
  | nil => cases h
  | cons c rest ih =>
    obtain ⟨a, b⟩ := c
    simp only [readByte] at h
    split_ifs at h with hk
    · simp [hk]
    · simp [ih h]

/-- `spanHolds` is what its name says: every byte below `n` reads. -/
theorem spanHolds_iff (m : Memory) (n : Nat) : spanHolds m n = true ↔ ∀ k < n, readByte m k ≠ none := by
  simp only [spanHolds, Bool.and_eq_true, decide_eq_true_eq, List.all_eq_true, List.mem_range, ← Option.isSome_iff_ne_none]
  refine ⟨fun h => h.2, fun h => ⟨?_, h⟩⟩
  have hs : Finset.range n ⊆ (m.map (·.1)).toFinset := fun k hk =>
    List.mem_toFinset.2 (mem_of_readByte (h k (Finset.mem_range.1 hk)))
  simpa using (Finset.card_le_card hs).trans (List.toFinset_card_le _)

/-- A placed word is within a length that the span reaches. -/
theorem placeWord_holds (w : Word) (s : State) :
    spanHolds (placeWord w s).span (placeWord w s).len = true ∧ 4 ≤ (placeWord w s).len := by
  rw [show (placeWord w s).len = if 4 ≤ s.len ∧ spanHolds (writeWord s.span w) s.len = true then s.len else 4 from rfl]
  split_ifs with h
  · exact ⟨h.2, h.1⟩
  · refine ⟨(spanHolds_iff _ _).2 fun k hk => ?_, Nat.le_refl 4⟩
    rw [show (placeWord w s).span = writeWord s.span w from rfl, readByte_writeWord, if_pos hk]
    simp

/-- Presented bytes are all there. -/
theorem present_holds (bs : List Byte) (a : Nat) (s : State) :
    spanHolds (present bs a s).span (present bs a s).len = true :=
  (spanHolds_iff _ _).2 fun k hk => by
    rw [show (present bs a s).span = spanOf bs from rfl, readByte_spanOf]
    simpa using show k < bs.length from hk

/-- Placing a word keeps the canonical form. -/
theorem placeWord_wf (w : Word) (s : State) (h : Memory.wf s.span = true) : Memory.wf (placeWord w s).span = true :=
  writeByte_wf _ _ _ (writeByte_wf _ _ _ (writeByte_wf _ _ _ (writeByte_wf _ _ _ h)))

/-- The machine after reset has an empty span, which has the canonical form. -/
theorem reset_wf : Memory.wf State.reset.span = true := rfl

end Sys2Proof.Laws
end

