-- ==== Sys2Proof/Laws/Operands.lean ====
section
/-! SUPPORT. What each resolver can answer, said once. -/

namespace Sys2Proof.Laws

open Sys2Proof.Machine

/-- An index below 32 is looked up in its class's table. -/
theorem lookupReg_of_lt (t : RegTab) (c : RegClass) {raw : Nat} (h : raw < 32) :
    lookupReg t c raw = some (.reg ((classTable t c)[raw]'h)) := dif_pos h

/-- An index of 32 or more is rejected. -/
theorem lookupReg_of_ge (t : RegTab) (c : RegClass) {raw : Nat} (h : 32 ≤ raw) : lookupReg t c raw = none :=
  dif_neg (Nat.not_lt.mpr h)

/-- A 5-bit register field is always in range. -/
theorem lookupReg_regIx (t : RegTab) (c : RegClass) (r : RegIx) :
    lookupReg t c r.toNat = some (.reg ((classTable t c)[r.toNat]'r.isLt)) := lookupReg_of_lt t c r.isLt

@[simp] theorem resolveGpr_regIx (t : RegTab) (r : RegIx) :
    resolveGpr t r.toNat = some (.reg (t.gpr[r.toNat]'r.isLt)) := lookupReg_regIx t .gpr r

@[simp] theorem resolveFpr32_regIx (t : RegTab) (r : RegIx) :
    resolveFpr32 t r.toNat = some (.reg (t.fpr32[r.toNat]'r.isLt)) := lookupReg_regIx t .fpr32 r

@[simp] theorem resolveFpr64_regIx (t : RegTab) (r : RegIx) :
    resolveFpr64 t r.toNat = some (.reg (t.fpr64[r.toNat]'r.isLt)) := lookupReg_regIx t .fpr64 r

/-- The resolver of an immediate kind never rejects its field (R143). -/
theorem resolveKind_imm (t : RegTab) (k : OperandKind) (n raw : Nat) (h : k = .uimm ∨ k = .simm ∨ k = .simmLsl1) :
    ∃ v, resolveKind t k n raw = some (.imm v) := by
  rcases h with rfl | rfl | rfl <;> exact ⟨_, rfl⟩

/-- Sign extension is Lean's own `signExtend` of the low `N` bits (R9; `N` is at least 1). -/
theorem sext_eq_signExtend (n v : Nat) (hn : 1 ≤ n) : sext n v = (BitVec.ofNat n v).signExtend 64 := by
  have hmsb : (BitVec.ofNat n v).msb = v.testBit (n - 1) := by
    rw [BitVec.msb_eq_getLsbD_last, BitVec.getLsbD_ofNat]
    simp; omega
  rw [BitVec.signExtend, sext, BitVec.toInt_eq_msb_cond, hmsb, BitVec.toNat_ofNat]
  split_ifs with h
  · simp
  · exact (BitVec.ofInt_natCast 64 _).symm

/-- The resolution succeeds with the list `l` exactly when every operand resolved, in order (R150, R155). -/
theorem collect_eq_some_iff (ops : List (Option Operand)) (l : List Operand) :
    collect ops = some l ↔ ops = l.map some := by
  induction ops generalizing l with
  | nil => cases l <;> simp [collect]
  | cons o ops ih => cases o <;> cases l <;> simp [collect, ih, and_comm]

/-- The resolution fails exactly when some operand was rejected (R155). -/
theorem collect_eq_none_iff (ops : List (Option Operand)) : collect ops = none ↔ none ∈ ops := by
  induction ops with
  | nil => simp [collect]
  | cons o ops ih => cases o <;> simp [collect, ih]

end Sys2Proof.Laws
end

