-- ==== Sys2Proof/Laws/State.lean ====
section
/-! SUPPORT. One lemma per field per update of the state, each true by `rfl`, so that no later proof unfolds a record
update. -/

namespace Sys2Proof.Laws

open Sys2Proof.Machine

variable (s : State) (bs : List Byte) (a : Nat) (w : Word) (t : Node) (rt : RegTab) (p : Params) (nbits n : Nat)

@[simp] theorem present_params : (present bs a s).params = s.params := rfl
@[simp] theorem present_table : (present bs a s).table = s.table := rfl
@[simp] theorem present_regtab : (present bs a s).regtab = s.regtab := rfl
@[simp] theorem present_features : (present bs a s).features = s.features := rfl
@[simp] theorem present_span : (present bs a s).span = spanOf bs := rfl
@[simp] theorem present_len : (present bs a s).len = bs.length := rfl
@[simp] theorem present_addr : (present bs a s).addr = a := rfl
@[simp] theorem present_result : (present bs a s).result = s.result := rfl

@[simp] theorem placeWord_params : (placeWord w s).params = s.params := rfl
@[simp] theorem placeWord_table : (placeWord w s).table = s.table := rfl
@[simp] theorem placeWord_regtab : (placeWord w s).regtab = s.regtab := rfl
@[simp] theorem placeWord_features : (placeWord w s).features = s.features := rfl
@[simp] theorem placeWord_addr : (placeWord w s).addr = s.addr := rfl
@[simp] theorem placeWord_result : (placeWord w s).result = s.result := rfl
@[simp] theorem placeWord_span : (placeWord w s).span = writeWord s.span w := rfl
@[simp] theorem placeWord_len : (placeWord w s).len =
    if 4 ≤ s.len ∧ spanHolds (writeWord s.span w) s.len = true then s.len else 4 := rfl

@[simp] theorem assertReset_params : (assertReset s).params = s.params := rfl
@[simp] theorem assertReset_table : (assertReset s).table = s.table := rfl
@[simp] theorem assertReset_regtab : (assertReset s).regtab = s.regtab := rfl
@[simp] theorem assertReset_features : (assertReset s).features = s.features := rfl
@[simp] theorem assertReset_span : (assertReset s).span = s.span := rfl
@[simp] theorem assertReset_len : (assertReset s).len = s.len := rfl
@[simp] theorem assertReset_addr : (assertReset s).addr = s.addr := rfl
@[simp] theorem assertReset_result : (assertReset s).result = none := rfl

@[simp] theorem startUp_params : (startUp p t rt).params = p := rfl
@[simp] theorem startUp_table : (startUp p t rt).table = t := rfl
@[simp] theorem startUp_regtab : (startUp p t rt).regtab = rt := rfl
@[simp] theorem startUp_features : (startUp p t rt).features = Config.allFeatures p := rfl
@[simp] theorem startUp_span : (startUp p t rt).span = [] := rfl
@[simp] theorem startUp_len : (startUp p t rt).len = 0 := rfl
@[simp] theorem startUp_addr : (startUp p t rt).addr = 0 := rfl
@[simp] theorem startUp_result : (startUp p t rt).result = none := rfl

@[simp] theorem withFetchWord_eq : s.withFetchWord nbits n = placeWord (tableWord nbits n) s := rfl

end Sys2Proof.Laws
end

