-- ==== Sys2Proof/Laws/Ops.lean ====
section
/-! SUPPORT. What each shared operation of a call can answer, said once: the failure report, the builder, a matched leaf
(by its meaning and by the builder alike), the fetch of a word, and the call itself case by case. -/

namespace Sys2Proof.Laws

open Sys2Proof.Machine

/-! ## Ends of a call -/

/-- A call that ends drives its result and changes nothing else. -/
theorem finish_next {r : Result} {s t : State} (h : finish r s = .next t) : t = { s with result := some r } := by
  simpa [finish, eq_comm] using h

theorem finish_ne_fault (r : Result) (s : State) (f : Fault) : finish r s ≠ .fault f := by simp [finish]

theorem finish_ne_refused (r : Result) (s : State) (f : Refusal) : finish r s ≠ .refused f := by simp [finish]

/-- A failure report answers the state with the failed result, and no other field is touched. -/
theorem reportFailure_eq (st : Status) (s : State) :
    reportFailure st s = .next { s with result := some ⟨st, consumedFor st, none⟩ } := rfl

/-- The builder answers the state with the built result, and no other field is touched. -/
theorem deliver_eq (opcode : Nat) (ops : List (Option Operand)) (s : State) :
    deliver opcode ops s = .next { s with result := some (builtResult opcode ops s.addr) } := rfl

/-- The builder's result when every operand resolved. -/
theorem builtResult_of_collect {opcode : Nat} {ops : List (Option Operand)} {l : List Operand} (a : Nat)
    (h : collect ops = some l) :
    builtResult opcode ops a = ⟨.success, 4#3, some ⟨opcode, l, 4#3, a⟩⟩ := by
  rw [builtResult, h]; rfl

/-- The builder's result when an operand was rejected. -/
theorem builtResult_of_none {opcode : Nat} {ops : List (Option Operand)} (a : Nat) (h : collect ops = none) :
    builtResult opcode ops a = ⟨.invalidOperand, 4#3, none⟩ := by
  rw [builtResult, h]; rfl

/-! ## A matched leaf -/

/-- A field read into its place in `Instr` keeps its value when the place is as wide as the field. -/
theorem fieldBits_toNat (w : Word) (rs : List BitRange) : (fieldBits (rawWidth rs) w rs).toNat = field w rs := by
  rw [fieldBits, BitVec.toNat_ofNat, Nat.mod_eq_of_lt (field_lt w rs)]

theorem rdAt_toNat (w : Word) : (fieldBits 5 w rdAt).toNat = field w rdAt := fieldBits_toNat w rdAt
theorem rs1At_toNat (w : Word) : (fieldBits 5 w rs1At).toNat = field w rs1At := fieldBits_toNat w rs1At
theorem rs2At_toNat (w : Word) : (fieldBits 5 w rs2At).toNat = field w rs2At := fieldBits_toNat w rs2At
theorem shamtAt_toNat (w : Word) : (fieldBits 5 w shamtAt).toNat = field w shamtAt := fieldBits_toNat w shamtAt
theorem immIAt_toNat (w : Word) : (fieldBits 12 w immIAt).toNat = field w immIAt := fieldBits_toNat w immIAt
theorem immSAt_toNat (w : Word) : (fieldBits 12 w immSAt).toNat = field w immSAt := fieldBits_toNat w immSAt
theorem immBAt_toNat (w : Word) : (fieldBits 12 w immBAt).toNat = field w immBAt := fieldBits_toNat w immBAt
theorem immUAt_toNat (w : Word) : (fieldBits 20 w immUAt).toNat = field w immUAt := fieldBits_toNat w immUAt
theorem immJAt_toNat (w : Word) : (fieldBits 20 w immJAt).toNat = field w immJAt := fieldBits_toNat w immJAt

/-- The leaf of the instruction read at an opcode identifier, and its meaning: the builder on that leaf. -/
theorem exec_readInstr {n : Nat} {w : Word} {i : Instr} (h : readInstr n w = some i) (s : State) :
    exec i s = deliverLeaf (leafOf i) w s := by
  unfold readInstr at h
  split at h <;> simp only [Option.some.injEq, reduceCtorEq] at h <;> subst h <;>
    simp only [exec, execLui, execAuipc, execJal, execJalr, execBeq, execBne, execBlt, execBge, execBltu,
      execBgeu, execLb, execLh, execLw, execLbu, execLhu, execSb, execSh, execSw, execAddi, execSlti,
      execSltiu, execXori, execOri, execAndi, execSlli, execSrli, execSrai, execAdd, execSub, execSll,
      execSlt, execSltu, execXor, execSrl, execSra, execOr, execAnd, execEcall, execEbreak, execFlw, execFld,
      execFsw, execFsd, execFsgnjS, execFsgnjD, execFmvXW, execFmvWX, rdAt_toNat, rs1At_toNat, rs2At_toNat,
      shamtAt_toNat, immIAt_toNat, immSAt_toNat, immBAt_toNat, immUAt_toNat, immJAt_toNat] <;> rfl

/-- A matched leaf ends the call as the builder does on the leaf's own operand specifications, whether or not the leaf
has a meaning of its own (R154). -/
theorem runLeaf_eq_deliverLeaf (l : Leaf) (w : Word) (s : State) : runLeaf l w s = deliverLeaf l w s := by
  unfold runLeaf
  split
  · rename_i i h
    unfold instrOf at h
    split at h
    · rename_i j hj
      split_ifs at h with hl
      cases h
      rw [exec_readInstr hj, hl]
    · cases h
  · rfl

/-! ## Fetching the word -/

/-- The little-endian assembly of the bytes of a word is the word. -/
theorem assemble_bytes (w : Word) :
    assemble (w.extractLsb' 0 8) (w.extractLsb' 8 8) (w.extractLsb' 16 8) (w.extractLsb' 24 8) = w := by
  apply BitVec.eq_of_toNat_eq
  rw [assemble_toNat]
  simp only [BitVec.extractLsb'_toNat, Nat.shiftRight_eq_div_pow]
  omega

/-- The four bytes at the start of the span make the word that is fetched. -/
theorem fetchWord_of_bytes {s : State} {b0 b1 b2 b3 : Byte} (h0 : bufRead s 0 = some b0) (h1 : bufRead s 1 = some b1)
    (h2 : bufRead s 2 = some b2) (h3 : bufRead s 3 = some b3) : fetchWord s = some (assemble b0 b1 b2 b3) := by
  simp [fetchWord, h0, h1, h2, h3]

/-- No word is fetched when one of the four bytes does not exist. -/
theorem fetchWord_of_absent {s : State} {k : Nat} (hk : k < 4) (h : bufRead s k = none) : fetchWord s = none := by
  unfold fetchWord
  split
  · rename_i h0 h1 h2 h3
    interval_cases k <;> simp_all
  · rfl

/-! ## The call, case by case -/

variable {s : State} {w : Word}

theorem call_of_features (h : s.features ≠ Config.allFeatures s.params) : call s = .refused .featuresNotAllOnes :=
  if_pos h

theorem call_of_ports (hf : s.features = Config.allFeatures s.params) (h : portsFit s = false) :
    call s = .refused .valueWiderThanPort := by
  simp [call, hf, h]

theorem call_of_table (hf : s.features = Config.allFeatures s.params) (hp : portsFit s = true)
    (h : tableOk s.params s.table = false) : call s = .refused .illFormedTable := by
  simp [call, hf, hp, h]

/-- The call's check of the length says that it is truthful (R343 b). -/
theorem truthful_iff (s : State) : s.truthful ↔ spanHolds s.span s.len = true := (spanHolds_iff _ _).symm

theorem call_of_untruthful (hc : s.configured) (h : ¬ s.truthful) : call s = .refused .lengthBeyondSpan := by
  rw [truthful_iff, Bool.not_eq_true] at h
  simp [call, hc.1, hc.2.1, hc.2.2, h]

theorem call_of_short (hc : s.configured) (ht : s.truthful) (h : s.len < 4) :
    call s = reportFailure .insufficientInput s := by
  simp [call, hc.1, hc.2.1, hc.2.2, (truthful_iff s).1 ht, h]

theorem call_of_word (hc : s.configured) (ht : s.truthful) (h : 4 ≤ s.len) (hw : fetchWord s = some w) :
    call s = runWord w s := by
  simp [call, hc.1, hc.2.1, hc.2.2, (truthful_iff s).1 ht, Nat.not_lt.mpr h, hw]

/-- With a truthful length of at least 4 there is a word to fetch. -/
theorem fetchWord_of_truthful (ht : s.truthful) (h : 4 ≤ s.len) : ∃ w, fetchWord s = some w := by
  have hb := fun k hk => Option.ne_none_iff_exists'.1 (ht k hk)
  obtain ⟨b0, h0⟩ := hb 0 (by omega)
  obtain ⟨b1, h1⟩ := hb 1 (by omega)
  obtain ⟨b2, h2⟩ := hb 2 (by omega)
  obtain ⟨b3, h3⟩ := hb 3 (by omega)
  exact ⟨_, fetchWord_of_bytes h0 h1 h2 h3⟩

/-- Every identifier of the register-class tables has its width exactly when each entry has (R24). -/
theorem regtabFits_iff (p : Params) (t : RegTab) :
    regtabFits p t = true ↔ ∀ (c : RegClass) (i : Nat) (h : i < 32), (classTable t c)[i]'h < 2 ^ p.regW := by
  simp only [regtabFits, List.all_eq_true, decide_eq_true_eq, List.mem_append, Vector.mem_toList_iff, Vector.mem_iff_getElem]
  constructor
  · rintro h (_ | _ | _) i hi
    · exact h _ (.inl (.inl ⟨i, hi, rfl⟩))
    · exact h _ (.inl (.inr ⟨i, hi, rfl⟩))
    · exact h _ (.inr ⟨i, hi, rfl⟩)
  · rintro h x ((⟨i, hi, rfl⟩ | ⟨i, hi, rfl⟩) | ⟨i, hi, rfl⟩)
    · exact h .gpr i hi
    · exact h .fpr32 i hi
    · exact h .fpr64 i hi

/-- A word's call ends with the result that the pure function of R154 gives it. -/
theorem runWord_eq (w : Word) (s : State) :
    runWord w s = .next { s with result := some (decodeWordWith s.table s.regtab w s.addr) } := by
  unfold runWord decodeWordWith
  cases h : walk w s.table with
  | none => rfl
  | some l => exact (runLeaf_eq_deliverLeaf l w s).trans rfl

/-- The result of a call, when it ends: InsufficientInput, or what the pure function of R154 gives the word. -/
def callResult (s : State) : Option Result :=
  if s.len < 4 then some (failed .insufficientInput 0#3)
  else (fetchWord s).map fun w => decodeWordWith s.table s.regtab w s.addr

/-- A configured call with a truthful length has a result, which the step drives, changing nothing else. -/
theorem step_of_truthful (hc : s.configured) (ht : s.truthful) :
    ∃ r, callResult s = some r ∧ step s = .next { s with result := some r } := by
  by_cases hl : s.len < 4
  · exact ⟨_, if_pos hl, call_of_short hc ht hl⟩
  · obtain ⟨w, hw⟩ := fetchWord_of_truthful ht (Nat.le_of_not_lt hl)
    refine ⟨_, ?_, (call_of_word hc ht (Nat.le_of_not_lt hl) hw).trans (runWord_eq w s)⟩
    rw [callResult, if_neg hl, hw]; rfl

/-- All that a step can do: it ends exactly when the machine is configured and the length is truthful, with the result
of `callResult`, changing nothing else. -/
theorem step_eq_next_iff (s t : State) :
    step s = .next t ↔ s.configured ∧ s.truthful ∧ ∃ r, callResult s = some r ∧ t = { s with result := some r } := by
  by_cases hc : s.configured
  · by_cases ht : s.truthful
    · obtain ⟨r, hr, hs⟩ := step_of_truthful hc ht
      rw [hs]
      constructor
      · rintro ⟨⟩; exact ⟨hc, ht, r, hr, rfl⟩
      · rintro ⟨-, -, q, hq, rfl⟩; cases hr.symm.trans hq; rfl
    · exact iff_of_false (by simp [step, call_of_untruthful hc ht]) fun h => ht h.2.1
  · refine iff_of_false ?_ fun h => hc h.1
    by_cases hf : s.features = Config.allFeatures s.params
    · cases hp : portsFit s with
      | false => simp [step, call_of_ports hf hp]
      | true =>
        cases ht : tableOk s.params s.table with
        | false => simp [step, call_of_table hf hp ht]
        | true => exact absurd ⟨hf, hp, ht⟩ hc
    · simp [step, call_of_features hf]

end Sys2Proof.Laws
end

