-- ==== Sys2Proof/Laws/PerInstr.lean ====
section
/-! SUPPORT. The per-instruction family: the word of every instruction satisfies the row that `opcode_table.json` gives
its leaf, `W & mask = match` (spec/30_encoding.md R76, R81). -/

namespace Sys2Proof.Laws

theorem encR_mask (f7 : BitVec 7) (f3 : BitVec 3) (op : BitVec 7) (rs2 rs1 rd : RegIx) :
    encR f7 f3 op rs2 rs1 rd &&& 0xFE00707F#32 = encR f7 f3 op 0 0 0 := by
  refine (BitVec.and_append (x₁ := f7 ++ rs2 ++ rs1 ++ f3 ++ rd) (y₁ := op)
    (x₂ := 127#7 ++ 0#5 ++ 0#5 ++ 7#3 ++ 0#5) (y₂ := 127#7)).trans ?_
  simp only [encR, BitVec.and_append, BitVec.and_zero]
  congr <;> exact BitVec.and_allOnes

theorem encR2_mask (f7 : BitVec 7) (f3 : BitVec 3) (op : BitVec 7) (rs1 rd : RegIx) :
    encR f7 f3 op 0 rs1 rd &&& 0xFFF0707F#32 = encR f7 f3 op 0 0 0 := by
  refine (BitVec.and_append (x₁ := f7 ++ (0 : RegIx) ++ rs1 ++ f3 ++ rd) (y₁ := op)
    (x₂ := 127#7 ++ 31#5 ++ 0#5 ++ 7#3 ++ 0#5) (y₂ := 127#7)).trans ?_
  simp only [encR, BitVec.and_append, BitVec.and_zero]
  congr <;> exact BitVec.and_allOnes

theorem encI_mask (f3 : BitVec 3) (op : BitVec 7) (imm : BitVec 12) (rs1 rd : RegIx) :
    encI f3 op imm rs1 rd &&& 0x0000707F#32 = encI f3 op 0 0 0 := by
  refine (BitVec.and_append (x₁ := imm ++ rs1 ++ f3 ++ rd) (y₁ := op)
    (x₂ := 0#12 ++ 0#5 ++ 7#3 ++ 0#5) (y₂ := 127#7)).trans ?_
  simp only [encI, BitVec.and_append, BitVec.and_zero]
  congr <;> exact BitVec.and_allOnes

theorem encS_mask (f3 : BitVec 3) (op : BitVec 7) (imm : BitVec 12) (rs2 rs1 : RegIx) :
    encS f3 op imm rs2 rs1 &&& 0x0000707F#32 = encS f3 op 0 0 0 := by
  refine (BitVec.and_append (x₁ := imm.extractLsb 11 5 ++ rs2 ++ rs1 ++ f3 ++ imm.extractLsb 4 0) (y₁ := op)
    (x₂ := 0#7 ++ 0#5 ++ 0#5 ++ 7#3 ++ 0#5) (y₂ := 127#7)).trans ?_
  simp only [encS, BitVec.and_append, BitVec.and_zero]
  congr <;> exact BitVec.and_allOnes

theorem encB_mask (f3 : BitVec 3) (op : BitVec 7) (raw : BitVec 12) (rs2 rs1 : RegIx) :
    encB f3 op raw rs2 rs1 &&& 0x0000707F#32 = encB f3 op 0 0 0 := by
  refine (BitVec.and_append (x₁ := raw.extractLsb 11 11 ++ raw.extractLsb 9 4 ++ rs2 ++ rs1 ++ f3 ++ raw.extractLsb 3 0 ++
      raw.extractLsb 10 10) (y₁ := op)
    (x₂ := 0#1 ++ 0#6 ++ 0#5 ++ 0#5 ++ 7#3 ++ 0#4 ++ 0#1) (y₂ := 127#7)).trans ?_
  simp only [encB, BitVec.and_append, BitVec.and_zero]
  congr <;> exact BitVec.and_allOnes

theorem encU_mask (op : BitVec 7) (raw : BitVec 20) (rd : RegIx) :
    encU op raw rd &&& 0x0000007F#32 = encU op 0 0 := by
  refine (BitVec.and_append (x₁ := raw ++ rd) (y₁ := op)
    (x₂ := 0#20 ++ 0#5) (y₂ := 127#7)).trans ?_
  simp only [encU, BitVec.and_append, BitVec.and_zero]
  congr; exact BitVec.and_allOnes

theorem encJ_mask (op : BitVec 7) (raw : BitVec 20) (rd : RegIx) :
    encJ op raw rd &&& 0x0000007F#32 = encJ op 0 0 := by
  refine (BitVec.and_append (x₁ := raw.extractLsb 19 19 ++ raw.extractLsb 9 0 ++ raw.extractLsb 10 10 ++
      raw.extractLsb 18 11 ++ rd) (y₁ := op)
    (x₂ := 0#1 ++ 0#10 ++ 0#1 ++ 0#8 ++ 0#5) (y₂ := 127#7)).trans ?_
  simp only [encJ, BitVec.and_append, BitVec.and_zero]
  congr; exact BitVec.and_allOnes

/-- The word of `i` satisfies the row of the opcode table that has the leaf of `i`. -/
def EncodingMatchesRow.Statement (i : Instr) : Prop :=
  ∃ r ∈ opcodeRows, r.leaf = leafOf i ∧ encode i &&& r.mask = r.pattern

theorem EncodingMatchesRow.lui (rd : RegIx) (imm : BitVec 20) :
    EncodingMatchesRow.Statement (.lui rd imm) :=
  ⟨⟨0x0000007F, 0x00000037, leafLui⟩, by decide, rfl,
    (encU_mask _ _ _).trans (by decide)⟩

theorem EncodingMatchesRow.auipc (rd : RegIx) (imm : BitVec 20) :
    EncodingMatchesRow.Statement (.auipc rd imm) :=
  ⟨⟨0x0000007F, 0x00000017, leafAuipc⟩, by decide, rfl,
    (encU_mask _ _ _).trans (by decide)⟩

theorem EncodingMatchesRow.jal (rd : RegIx) (raw : BitVec 20) :
    EncodingMatchesRow.Statement (.jal rd raw) :=
  ⟨⟨0x0000007F, 0x0000006F, leafJal⟩, by decide, rfl,
    (encJ_mask _ _ _).trans (by decide)⟩

theorem EncodingMatchesRow.jalr (rd rs1 : RegIx) (imm : BitVec 12) :
    EncodingMatchesRow.Statement (.jalr rd rs1 imm) :=
  ⟨⟨0x0000707F, 0x00000067, leafJalr⟩, by decide, rfl,
    (encI_mask _ _ _ _ _).trans (by decide)⟩

theorem EncodingMatchesRow.beq (rs1 rs2 : RegIx) (raw : BitVec 12) :
    EncodingMatchesRow.Statement (.beq rs1 rs2 raw) :=
  ⟨⟨0x0000707F, 0x00000063, leafBeq⟩, by decide, rfl,
    (encB_mask _ _ _ _ _).trans (by decide)⟩

theorem EncodingMatchesRow.bne (rs1 rs2 : RegIx) (raw : BitVec 12) :
    EncodingMatchesRow.Statement (.bne rs1 rs2 raw) :=
  ⟨⟨0x0000707F, 0x00001063, leafBne⟩, by decide, rfl,
    (encB_mask _ _ _ _ _).trans (by decide)⟩

theorem EncodingMatchesRow.blt (rs1 rs2 : RegIx) (raw : BitVec 12) :
    EncodingMatchesRow.Statement (.blt rs1 rs2 raw) :=
  ⟨⟨0x0000707F, 0x00004063, leafBlt⟩, by decide, rfl,
    (encB_mask _ _ _ _ _).trans (by decide)⟩

theorem EncodingMatchesRow.bge (rs1 rs2 : RegIx) (raw : BitVec 12) :
    EncodingMatchesRow.Statement (.bge rs1 rs2 raw) :=
  ⟨⟨0x0000707F, 0x00005063, leafBge⟩, by decide, rfl,
    (encB_mask _ _ _ _ _).trans (by decide)⟩

theorem EncodingMatchesRow.bltu (rs1 rs2 : RegIx) (raw : BitVec 12) :
    EncodingMatchesRow.Statement (.bltu rs1 rs2 raw) :=
  ⟨⟨0x0000707F, 0x00006063, leafBltu⟩, by decide, rfl,
    (encB_mask _ _ _ _ _).trans (by decide)⟩

theorem EncodingMatchesRow.bgeu (rs1 rs2 : RegIx) (raw : BitVec 12) :
    EncodingMatchesRow.Statement (.bgeu rs1 rs2 raw) :=
  ⟨⟨0x0000707F, 0x00007063, leafBgeu⟩, by decide, rfl,
    (encB_mask _ _ _ _ _).trans (by decide)⟩

theorem EncodingMatchesRow.lb (rd rs1 : RegIx) (imm : BitVec 12) :
    EncodingMatchesRow.Statement (.lb rd rs1 imm) :=
  ⟨⟨0x0000707F, 0x00000003, leafLb⟩, by decide, rfl,
    (encI_mask _ _ _ _ _).trans (by decide)⟩

theorem EncodingMatchesRow.lh (rd rs1 : RegIx) (imm : BitVec 12) :
    EncodingMatchesRow.Statement (.lh rd rs1 imm) :=
  ⟨⟨0x0000707F, 0x00001003, leafLh⟩, by decide, rfl,
    (encI_mask _ _ _ _ _).trans (by decide)⟩

theorem EncodingMatchesRow.lw (rd rs1 : RegIx) (imm : BitVec 12) :
    EncodingMatchesRow.Statement (.lw rd rs1 imm) :=
  ⟨⟨0x0000707F, 0x00002003, leafLw⟩, by decide, rfl,
    (encI_mask _ _ _ _ _).trans (by decide)⟩

theorem EncodingMatchesRow.lbu (rd rs1 : RegIx) (imm : BitVec 12) :
    EncodingMatchesRow.Statement (.lbu rd rs1 imm) :=
  ⟨⟨0x0000707F, 0x00004003, leafLbu⟩, by decide, rfl,
    (encI_mask _ _ _ _ _).trans (by decide)⟩

theorem EncodingMatchesRow.lhu (rd rs1 : RegIx) (imm : BitVec 12) :
    EncodingMatchesRow.Statement (.lhu rd rs1 imm) :=
  ⟨⟨0x0000707F, 0x00005003, leafLhu⟩, by decide, rfl,
    (encI_mask _ _ _ _ _).trans (by decide)⟩

theorem EncodingMatchesRow.sb (rs2 rs1 : RegIx) (imm : BitVec 12) :
    EncodingMatchesRow.Statement (.sb rs2 rs1 imm) :=
  ⟨⟨0x0000707F, 0x00000023, leafSb⟩, by decide, rfl,
    (encS_mask _ _ _ _ _).trans (by decide)⟩

theorem EncodingMatchesRow.sh (rs2 rs1 : RegIx) (imm : BitVec 12) :
    EncodingMatchesRow.Statement (.sh rs2 rs1 imm) :=
  ⟨⟨0x0000707F, 0x00001023, leafSh⟩, by decide, rfl,
    (encS_mask _ _ _ _ _).trans (by decide)⟩

theorem EncodingMatchesRow.sw (rs2 rs1 : RegIx) (imm : BitVec 12) :
    EncodingMatchesRow.Statement (.sw rs2 rs1 imm) :=
  ⟨⟨0x0000707F, 0x00002023, leafSw⟩, by decide, rfl,
    (encS_mask _ _ _ _ _).trans (by decide)⟩

theorem EncodingMatchesRow.addi (rd rs1 : RegIx) (imm : BitVec 12) :
    EncodingMatchesRow.Statement (.addi rd rs1 imm) :=
  ⟨⟨0x0000707F, 0x00000013, leafAddi⟩, by decide, rfl,
    (encI_mask _ _ _ _ _).trans (by decide)⟩

theorem EncodingMatchesRow.slti (rd rs1 : RegIx) (imm : BitVec 12) :
    EncodingMatchesRow.Statement (.slti rd rs1 imm) :=
  ⟨⟨0x0000707F, 0x00002013, leafSlti⟩, by decide, rfl,
    (encI_mask _ _ _ _ _).trans (by decide)⟩

theorem EncodingMatchesRow.sltiu (rd rs1 : RegIx) (imm : BitVec 12) :
    EncodingMatchesRow.Statement (.sltiu rd rs1 imm) :=
  ⟨⟨0x0000707F, 0x00003013, leafSltiu⟩, by decide, rfl,
    (encI_mask _ _ _ _ _).trans (by decide)⟩

theorem EncodingMatchesRow.xori (rd rs1 : RegIx) (imm : BitVec 12) :
    EncodingMatchesRow.Statement (.xori rd rs1 imm) :=
  ⟨⟨0x0000707F, 0x00004013, leafXori⟩, by decide, rfl,
    (encI_mask _ _ _ _ _).trans (by decide)⟩

theorem EncodingMatchesRow.ori (rd rs1 : RegIx) (imm : BitVec 12) :
    EncodingMatchesRow.Statement (.ori rd rs1 imm) :=
  ⟨⟨0x0000707F, 0x00006013, leafOri⟩, by decide, rfl,
    (encI_mask _ _ _ _ _).trans (by decide)⟩

theorem EncodingMatchesRow.andi (rd rs1 : RegIx) (imm : BitVec 12) :
    EncodingMatchesRow.Statement (.andi rd rs1 imm) :=
  ⟨⟨0x0000707F, 0x00007013, leafAndi⟩, by decide, rfl,
    (encI_mask _ _ _ _ _).trans (by decide)⟩

theorem EncodingMatchesRow.slli (rd rs1 : RegIx) (shamt : BitVec 5) :
    EncodingMatchesRow.Statement (.slli rd rs1 shamt) :=
  ⟨⟨0xFE00707F, 0x00001013, leafSlli⟩, by decide, rfl,
    (encR_mask _ _ _ _ _ _).trans (by decide)⟩

theorem EncodingMatchesRow.srli (rd rs1 : RegIx) (shamt : BitVec 5) :
    EncodingMatchesRow.Statement (.srli rd rs1 shamt) :=
  ⟨⟨0xFE00707F, 0x00005013, leafSrli⟩, by decide, rfl,
    (encR_mask _ _ _ _ _ _).trans (by decide)⟩

theorem EncodingMatchesRow.srai (rd rs1 : RegIx) (shamt : BitVec 5) :
    EncodingMatchesRow.Statement (.srai rd rs1 shamt) :=
  ⟨⟨0xFE00707F, 0x40005013, leafSrai⟩, by decide, rfl,
    (encR_mask _ _ _ _ _ _).trans (by decide)⟩

theorem EncodingMatchesRow.add (rd rs1 rs2 : RegIx) :
    EncodingMatchesRow.Statement (.add rd rs1 rs2) :=
  ⟨⟨0xFE00707F, 0x00000033, leafAdd⟩, by decide, rfl,
    (encR_mask _ _ _ _ _ _).trans (by decide)⟩

theorem EncodingMatchesRow.sub (rd rs1 rs2 : RegIx) :
    EncodingMatchesRow.Statement (.sub rd rs1 rs2) :=
  ⟨⟨0xFE00707F, 0x40000033, leafSub⟩, by decide, rfl,
    (encR_mask _ _ _ _ _ _).trans (by decide)⟩

theorem EncodingMatchesRow.sll (rd rs1 rs2 : RegIx) :
    EncodingMatchesRow.Statement (.sll rd rs1 rs2) :=
  ⟨⟨0xFE00707F, 0x00001033, leafSll⟩, by decide, rfl,
    (encR_mask _ _ _ _ _ _).trans (by decide)⟩

theorem EncodingMatchesRow.slt (rd rs1 rs2 : RegIx) :
    EncodingMatchesRow.Statement (.slt rd rs1 rs2) :=
  ⟨⟨0xFE00707F, 0x00002033, leafSlt⟩, by decide, rfl,
    (encR_mask _ _ _ _ _ _).trans (by decide)⟩

theorem EncodingMatchesRow.sltu (rd rs1 rs2 : RegIx) :
    EncodingMatchesRow.Statement (.sltu rd rs1 rs2) :=
  ⟨⟨0xFE00707F, 0x00003033, leafSltu⟩, by decide, rfl,
    (encR_mask _ _ _ _ _ _).trans (by decide)⟩

theorem EncodingMatchesRow.xor (rd rs1 rs2 : RegIx) :
    EncodingMatchesRow.Statement (.xor rd rs1 rs2) :=
  ⟨⟨0xFE00707F, 0x00004033, leafXor⟩, by decide, rfl,
    (encR_mask _ _ _ _ _ _).trans (by decide)⟩

theorem EncodingMatchesRow.srl (rd rs1 rs2 : RegIx) :
    EncodingMatchesRow.Statement (.srl rd rs1 rs2) :=
  ⟨⟨0xFE00707F, 0x00005033, leafSrl⟩, by decide, rfl,
    (encR_mask _ _ _ _ _ _).trans (by decide)⟩

theorem EncodingMatchesRow.sra (rd rs1 rs2 : RegIx) :
    EncodingMatchesRow.Statement (.sra rd rs1 rs2) :=
  ⟨⟨0xFE00707F, 0x40005033, leafSra⟩, by decide, rfl,
    (encR_mask _ _ _ _ _ _).trans (by decide)⟩

theorem EncodingMatchesRow.or (rd rs1 rs2 : RegIx) :
    EncodingMatchesRow.Statement (.or rd rs1 rs2) :=
  ⟨⟨0xFE00707F, 0x00006033, leafOr⟩, by decide, rfl,
    (encR_mask _ _ _ _ _ _).trans (by decide)⟩

theorem EncodingMatchesRow.and (rd rs1 rs2 : RegIx) :
    EncodingMatchesRow.Statement (.and rd rs1 rs2) :=
  ⟨⟨0xFE00707F, 0x00007033, leafAnd⟩, by decide, rfl,
    (encR_mask _ _ _ _ _ _).trans (by decide)⟩

theorem EncodingMatchesRow.ecall :
    EncodingMatchesRow.Statement .ecall :=
  ⟨⟨0xFFFFFFFF, 0x00000073, leafEcall⟩, by decide, rfl,
    by decide⟩

theorem EncodingMatchesRow.ebreak :
    EncodingMatchesRow.Statement .ebreak :=
  ⟨⟨0xFFFFFFFF, 0x00100073, leafEbreak⟩, by decide, rfl,
    by decide⟩

theorem EncodingMatchesRow.flw (rd rs1 : RegIx) (imm : BitVec 12) :
    EncodingMatchesRow.Statement (.flw rd rs1 imm) :=
  ⟨⟨0x0000707F, 0x00002007, leafFlw⟩, by decide, rfl,
    (encI_mask _ _ _ _ _).trans (by decide)⟩

theorem EncodingMatchesRow.fld (rd rs1 : RegIx) (imm : BitVec 12) :
    EncodingMatchesRow.Statement (.fld rd rs1 imm) :=
  ⟨⟨0x0000707F, 0x00003007, leafFld⟩, by decide, rfl,
    (encI_mask _ _ _ _ _).trans (by decide)⟩

theorem EncodingMatchesRow.fsw (rs2 rs1 : RegIx) (imm : BitVec 12) :
    EncodingMatchesRow.Statement (.fsw rs2 rs1 imm) :=
  ⟨⟨0x0000707F, 0x00002027, leafFsw⟩, by decide, rfl,
    (encS_mask _ _ _ _ _).trans (by decide)⟩

theorem EncodingMatchesRow.fsd (rs2 rs1 : RegIx) (imm : BitVec 12) :
    EncodingMatchesRow.Statement (.fsd rs2 rs1 imm) :=
  ⟨⟨0x0000707F, 0x00003027, leafFsd⟩, by decide, rfl,
    (encS_mask _ _ _ _ _).trans (by decide)⟩

theorem EncodingMatchesRow.fsgnjS (rd rs1 rs2 : RegIx) :
    EncodingMatchesRow.Statement (.fsgnjS rd rs1 rs2) :=
  ⟨⟨0xFE00707F, 0x20000053, leafFsgnjS⟩, by decide, rfl,
    (encR_mask _ _ _ _ _ _).trans (by decide)⟩

theorem EncodingMatchesRow.fsgnjD (rd rs1 rs2 : RegIx) :
    EncodingMatchesRow.Statement (.fsgnjD rd rs1 rs2) :=
  ⟨⟨0xFE00707F, 0x22000053, leafFsgnjD⟩, by decide, rfl,
    (encR_mask _ _ _ _ _ _).trans (by decide)⟩

theorem EncodingMatchesRow.fmvXW (rd rs1 : RegIx) :
    EncodingMatchesRow.Statement (.fmvXW rd rs1) :=
  ⟨⟨0xFFF0707F, 0xE0000053, leafFmvXW⟩, by decide, rfl,
    (encR2_mask _ _ _ _ _).trans (by decide)⟩

theorem EncodingMatchesRow.fmvWX (rd rs1 : RegIx) :
    EncodingMatchesRow.Statement (.fmvWX rd rs1) :=
  ⟨⟨0xFFF0707F, 0xF0000053, leafFmvWX⟩, by decide, rfl,
    (encR2_mask _ _ _ _ _).trans (by decide)⟩

end Sys2Proof.Laws
end

