-- ==== Sys2Proof/Machine/Sweep.lean ====
section
/-! DEFINITION. The caller's reference sweep of spec/70_reset_and_hazards.md R346. It is no part of the block: it is the
one caller policy the spec fixes, to give a byte stream an end. No obligation is stated about it. -/

namespace Sys2Proof.Machine

/-- At most `fuel` calls of a linear sweep, the caller at address `a` with the bytes `bs` before it (R346): it stops
on InsufficientInput and where the stream ends. -/
def sweepFrom (p : Params) (t : Node) (rt : RegTab) (fuel : Nat) (bs : List Byte) (a : Nat) : List (Nat × Result) :=
  match fuel with
  | 0 => []
  | n + 1 =>
    let r := decodeCall t rt bs a
    let rest := bs.drop r.consumed.toNat
    (a, r) :: (if r.status = .insufficientInput || rest.isEmpty then []
      else sweepFrom p t rt n rest ((a + r.consumed.toNat) % 2 ^ p.addrW))

/-- The sweep of a byte stream from `base` (R346); each call but the last consumes 4 bytes, so its length bounds the
calls. -/
def sweep (p : Params) (t : Node) (rt : RegTab) (bs : List Byte) (base : Nat) : List (Nat × Result) :=
  sweepFrom p t rt (bs.length + 1) bs base

end Sys2Proof.Machine
end

