-- ==== Sys2Proof/Tests/Slice0.lean ====
section
/-! SUPPORT. Tests on fixed values and, for every obligation with premises, a witness that meets them. The expected
values come from spec/95_test_vectors.md (the section is named at each group), not from the model; a statement is in
Obligations.lean, none is here. -/

namespace Sys2Proof.Tests

open Sys2Proof.Machine

/-! ## Helpers -/

/-- The result that an outcome leaves, none for a stop. -/
def resOf : Host.Outcome State Fault Refusal → Option Result
  | .next s => s.result
  | _ => none

/-- The parameters at the spec's defaults (R6). -/
abbrev p0 : Params := Params.defaults

/-- The machine after reset with a table loaded, and bytes and an address presented for the next call. -/
def calling (t : Node) (bs : List Byte) (a : Nat) : State := present bs a { State.reset with table := t }

/-- The result of one call. -/
def resultOn (t : Node) (bs : List Byte) (a : Nat) : Option Result := resOf (step (calling t bs a))

/-- The machine under REF with a word presented. -/
def holding (w : Word) : State := calling ref (wordBytes w) 0x1000

/-- `x<n>`, `f<n>`, `d<n>` and immediates as the spec's vectors write them (reference numbering, R24). -/
def x (n : Nat) : Operand := .reg (1 + n)
/-- The register `f<n>`. -/
def f (n : Nat) : Operand := .reg (33 + n)
/-- The register `d<n>`. -/
def d (n : Nat) : Operand := .reg (65 + n)
/-- An immediate by its value. -/
def imm (v : Int) : Operand := .imm (BitVec.ofInt 64 v)

/-- An opcode identifier and its operands out of a result. -/
def recordOf (r : Option Result) : Option (Nat × List Operand) :=
  r.bind fun r => r.record.map fun rc => (rc.opcode, rc.operands)

/-! ## Well-formedness: an ill-formed table for each check of R75, which the check and the table refuse -/

/-- A leaf that is well formed. -/
def okLeaf : Leaf := ⟨1, []⟩

/-- `n` nested branches on the single bits `n - 1` down to 0. -/
def nested : Nat → Node
  | 0 => .leaf okLeaf
  | n + 1 => .branch ⟨n, n⟩ (.cons 0 (nested n) .nil)

theorem test_wf1_selector_above_bit_31 :
    wf1Selector ⟨32, 30⟩ = false ∧ tableOk p0 (.branch ⟨32, 30⟩ .nil) = false := by decide

theorem test_wf1_selector_reversed :
    wf1Selector ⟨3, 4⟩ = false ∧ tableOk p0 (.branch ⟨3, 4⟩ .nil) = false := by decide

theorem test_wf2_value_twice :
    wf2Values ⟨1, 0⟩ [2, 2] = false ∧
    tableOk p0 (.branch ⟨1, 0⟩ (.cons 2 .unmatched (.cons 2 .unmatched .nil))) = false := by decide

theorem test_wf2_value_too_wide :
    wf2Values ⟨1, 0⟩ [4] = false ∧ tableOk p0 (.branch ⟨1, 0⟩ (.cons 4 .unmatched .nil)) = false := by decide

theorem test_wf3_ninth_branch :
    wf3Depth p0 (List.replicate 8 ⟨0, 0⟩) = false ∧ tableOk p0 (nested 9) = false ∧ tableOk p0 (nested 8) = true := by decide

theorem test_wf4_shared_bit :
    wf4Disjoint [⟨6, 0⟩] ⟨8, 6⟩ = false ∧
    tableOk p0 (.branch ⟨6, 0⟩ (.cons 0 (.branch ⟨8, 6⟩ .nil) .nil)) = false := by decide

theorem test_opcode_wider_than_its_port :
    opcodeFits p0 ⟨0x10000, []⟩ = false ∧ tableOk p0 (.leaf ⟨0x10000, []⟩) = false ∧
    tableOk p0 (.leaf ⟨0xFFFF, []⟩) = true := by decide

theorem test_limits_are_parameters :
    tableOk { p0 with depthMax := 3 } ref = false ∧ tableOk { p0 with depthMax := 4, maxOperands := 3, opcW := 6 } ref = true ∧
    tableOk { p0 with maxOperands := 2 } ref = false ∧ tableOk { p0 with opcW := 5 } ref = false := by decide

theorem test_wf5_opcode_zero : wf5Opcode ⟨0, []⟩ = false ∧ tableOk p0 (.leaf ⟨0, []⟩) = false := by decide

theorem test_wf6_nine_operands :
    wf6Count p0 ⟨1, List.replicate 9 ⟨.gpr, 5, rdAt⟩⟩ = false ∧
    tableOk p0 (.leaf ⟨1, List.replicate 9 ⟨.gpr, 5, rdAt⟩⟩) = false ∧
    tableOk p0 (.leaf ⟨1, List.replicate 8 ⟨.gpr, 5, rdAt⟩⟩) = true := by decide

theorem test_wf7_range_above_bit_31 :
    wf7Ranges ⟨.uimm, 2, [⟨32, 31⟩]⟩ = false ∧ tableOk p0 (.leaf ⟨1, [⟨.uimm, 2, [⟨32, 31⟩]⟩]⟩) = false := by decide

theorem test_wf7_no_range_and_33_bits :
    wf7Ranges ⟨.uimm, 0, []⟩ = false ∧ wf7Ranges ⟨.uimm, 33, [⟨31, 0⟩, ⟨0, 0⟩]⟩ = false ∧
    tableOk p0 (.leaf ⟨1, [⟨.uimm, 33, [⟨31, 0⟩, ⟨0, 0⟩]⟩]⟩) = false := by decide

theorem test_wf8_width_of_register :
    wf8to10Width ⟨.gpr, 6, rdAt⟩ = false ∧ tableOk p0 (.leaf ⟨1, [⟨.gpr, 6, rdAt⟩]⟩) = false := by decide

theorem test_wf9_signed_width :
    wf8to10Width ⟨.simm, 11, immIAt⟩ = false ∧ wf8to10Width ⟨.simm, 65, immIAt⟩ = false ∧
    wf8to10Width ⟨.simm, 64, immIAt⟩ = true ∧ tableOk p0 (.leaf ⟨1, [⟨.simm, 11, immIAt⟩]⟩) = false := by decide

theorem test_wf10_shifted_width :
    wf8to10Width ⟨.simmLsl1, 12, immBAt⟩ = false ∧ wf8to10Width ⟨.simmLsl1, 13, immBAt⟩ = true ∧
    tableOk p0 (.leaf ⟨1, [⟨.simmLsl1, 12, immBAt⟩]⟩) = false := by decide

theorem test_tables_of_the_spec_are_well_formed :
    tableOk p0 ref = true ∧ tableOk p0 tableReg6 = true ∧ tableOk p0 tableOvl = true := by decide

/-! ## One vector for every leaf: its decoding and its record (spec/95_test_vectors.md section 2.6) -/

/-! ### UpperJump -/

theorem test_decode_lui : decodeWord 0x592379B7#32 = .ok (.lui 19#5 0x59237#20) := by decide

theorem test_step_lui :
    resultOn ref [0xB7, 0x79, 0x23, 0x59] 0x1000 = some (delivered 1 [x 19, imm 365111] 0x1000) := by decide

theorem test_decode_auipc : decodeWord 0xBF0BEF17#32 = .ok (.auipc 30#5 0xBF0BE#20) := by decide

theorem test_step_auipc :
    resultOn ref [0x17, 0xEF, 0x0B, 0xBF] 0x1000 = some (delivered 2 [x 30, imm 782526] 0x1000) := by decide

theorem test_decode_jal : decodeWord 0x564B8A6F#32 = .ok (.jal 20#5 0x5C2B2#20) := by decide

theorem test_step_jal :
    resultOn ref [0x6F, 0x8A, 0x4B, 0x56] 0x1000 = some (delivered 3 [x 20, imm 755044] 0x1000) := by decide

theorem test_decode_jalr : decodeWord 0xA7E70A67#32 = .ok (.jalr 20#5 14#5 0xA7E#12) := by decide

theorem test_step_jalr :
    resultOn ref [0x67, 0x0A, 0xE7, 0xA7] 0x1000 = some (delivered 4 [x 20, x 14, imm (-1410)] 0x1000) := by decide

/-! ### Branch -/

theorem test_decode_beq : decodeWord 0xE88C8263#32 = .ok (.beq 25#5 8#5 0xB42#12) := by decide

theorem test_step_beq :
    resultOn ref [0x63, 0x82, 0x8C, 0xE8] 0x1000 = some (delivered 5 [x 25, x 8, imm (-2428)] 0x1000) := by decide

theorem test_decode_bne : decodeWord 0x659E11E3#32 = .ok (.bne 28#5 25#5 0x721#12) := by decide

theorem test_step_bne :
    resultOn ref [0xE3, 0x11, 0x9E, 0x65] 0x1000 = some (delivered 6 [x 28, x 25, imm 3650] 0x1000) := by decide

theorem test_decode_blt : decodeWord 0x53F5C5E3#32 = .ok (.blt 11#5 31#5 0x695#12) := by decide

theorem test_step_blt :
    resultOn ref [0xE3, 0xC5, 0xF5, 0x53] 0x1000 = some (delivered 7 [x 11, x 31, imm 3370] 0x1000) := by decide

theorem test_decode_bge : decodeWord 0x52A4DAE3#32 = .ok (.bge 9#5 10#5 0x69A#12) := by decide

theorem test_step_bge :
    resultOn ref [0xE3, 0xDA, 0xA4, 0x52] 0x1000 = some (delivered 8 [x 9, x 10, imm 3380] 0x1000) := by decide

theorem test_decode_bltu : decodeWord 0x4A486063#32 = .ok (.bltu 16#5 4#5 0x250#12) := by decide

theorem test_step_bltu :
    resultOn ref [0x63, 0x60, 0x48, 0x4A] 0x1000 = some (delivered 9 [x 16, x 4, imm 1184] 0x1000) := by decide

theorem test_decode_bgeu : decodeWord 0x35E9F263#32 = .ok (.bgeu 19#5 30#5 0x1A2#12) := by decide

theorem test_step_bgeu :
    resultOn ref [0x63, 0xF2, 0xE9, 0x35] 0x1000 = some (delivered 10 [x 19, x 30, imm 836] 0x1000) := by decide

/-! ### Load -/

theorem test_decode_lb : decodeWord 0xC6658283#32 = .ok (.lb 5#5 11#5 0xC66#12) := by decide

theorem test_step_lb :
    resultOn ref [0x83, 0x82, 0x65, 0xC6] 0x1000 = some (delivered 11 [x 5, x 11, imm (-922)] 0x1000) := by decide

theorem test_decode_lh : decodeWord 0x5CCF1783#32 = .ok (.lh 15#5 30#5 0x5CC#12) := by decide

theorem test_step_lh :
    resultOn ref [0x83, 0x17, 0xCF, 0x5C] 0x1000 = some (delivered 12 [x 15, x 30, imm 1484] 0x1000) := by decide

theorem test_decode_lw : decodeWord 0xEFD6A283#32 = .ok (.lw 5#5 13#5 0xEFD#12) := by decide

theorem test_step_lw :
    resultOn ref [0x83, 0xA2, 0xD6, 0xEF] 0x1000 = some (delivered 13 [x 5, x 13, imm (-259)] 0x1000) := by decide

theorem test_decode_lbu : decodeWord 0x43C2CD83#32 = .ok (.lbu 27#5 5#5 0x43C#12) := by decide

theorem test_step_lbu :
    resultOn ref [0x83, 0xCD, 0xC2, 0x43] 0x1000 = some (delivered 14 [x 27, x 5, imm 1084] 0x1000) := by decide

theorem test_decode_lhu : decodeWord 0x8B12D083#32 = .ok (.lhu 1#5 5#5 0x8B1#12) := by decide

theorem test_step_lhu :
    resultOn ref [0x83, 0xD0, 0x12, 0x8B] 0x1000 = some (delivered 15 [x 1, x 5, imm (-1871)] 0x1000) := by decide

/-! ### Store -/

theorem test_decode_sb : decodeWord 0x6F648F23#32 = .ok (.sb 22#5 9#5 0x6FE#12) := by decide

theorem test_step_sb :
    resultOn ref [0x23, 0x8F, 0x64, 0x6F] 0x1000 = some (delivered 16 [x 22, x 9, imm 1790] 0x1000) := by decide

theorem test_decode_sh : decodeWord 0x45F99F23#32 = .ok (.sh 31#5 19#5 0x45E#12) := by decide

theorem test_step_sh :
    resultOn ref [0x23, 0x9F, 0xF9, 0x45] 0x1000 = some (delivered 17 [x 31, x 19, imm 1118] 0x1000) := by decide

theorem test_decode_sw : decodeWord 0x1846A8A3#32 = .ok (.sw 4#5 13#5 0x191#12) := by decide

theorem test_step_sw :
    resultOn ref [0xA3, 0xA8, 0x46, 0x18] 0x1000 = some (delivered 18 [x 4, x 13, imm 401] 0x1000) := by decide

/-! ### RegImm -/

theorem test_decode_addi : decodeWord 0xA0E08913#32 = .ok (.addi 18#5 1#5 0xA0E#12) := by decide

theorem test_step_addi :
    resultOn ref [0x13, 0x89, 0xE0, 0xA0] 0x1000 = some (delivered 19 [x 18, x 1, imm (-1522)] 0x1000) := by decide

theorem test_decode_slti : decodeWord 0x64AE2093#32 = .ok (.slti 1#5 28#5 0x64A#12) := by decide

theorem test_step_slti :
    resultOn ref [0x93, 0x20, 0xAE, 0x64] 0x1000 = some (delivered 20 [x 1, x 28, imm 1610] 0x1000) := by decide

theorem test_decode_sltiu : decodeWord 0xC51EB793#32 = .ok (.sltiu 15#5 29#5 0xC51#12) := by decide

theorem test_step_sltiu :
    resultOn ref [0x93, 0xB7, 0x1E, 0xC5] 0x1000 = some (delivered 21 [x 15, x 29, imm (-943)] 0x1000) := by decide

theorem test_decode_xori : decodeWord 0x625EC513#32 = .ok (.xori 10#5 29#5 0x625#12) := by decide

theorem test_step_xori :
    resultOn ref [0x13, 0xC5, 0x5E, 0x62] 0x1000 = some (delivered 22 [x 10, x 29, imm 1573] 0x1000) := by decide

theorem test_decode_ori : decodeWord 0x8DC06E13#32 = .ok (.ori 28#5 0#5 0x8DC#12) := by decide

theorem test_step_ori :
    resultOn ref [0x13, 0x6E, 0xC0, 0x8D] 0x1000 = some (delivered 23 [x 28, x 0, imm (-1828)] 0x1000) := by decide

theorem test_decode_andi : decodeWord 0xA4D97013#32 = .ok (.andi 0#5 18#5 0xA4D#12) := by decide

theorem test_step_andi :
    resultOn ref [0x13, 0x70, 0xD9, 0xA4] 0x1000 = some (delivered 24 [x 0, x 18, imm (-1459)] 0x1000) := by decide

/-! ### ShiftImm -/

theorem test_decode_slli : decodeWord 0x01659D13#32 = .ok (.slli 26#5 11#5 0x16#5) := by decide

theorem test_step_slli :
    resultOn ref [0x13, 0x9D, 0x65, 0x01] 0x1000 = some (delivered 25 [x 26, x 11, imm 22] 0x1000) := by decide

theorem test_decode_srli : decodeWord 0x00015193#32 = .ok (.srli 3#5 2#5 0x00#5) := by decide

theorem test_step_srli :
    resultOn ref [0x93, 0x51, 0x01, 0x00] 0x1000 = some (delivered 26 [x 3, x 2, imm 0] 0x1000) := by decide

theorem test_decode_srai : decodeWord 0x4081DE93#32 = .ok (.srai 29#5 3#5 0x08#5) := by decide

theorem test_step_srai :
    resultOn ref [0x93, 0xDE, 0x81, 0x40] 0x1000 = some (delivered 27 [x 29, x 3, imm 8] 0x1000) := by decide

/-! ### RegReg -/

theorem test_decode_add : decodeWord 0x004D02B3#32 = .ok (.add 5#5 26#5 4#5) := by decide

theorem test_step_add :
    resultOn ref [0xB3, 0x02, 0x4D, 0x00] 0x1000 = some (delivered 28 [x 5, x 26, x 4] 0x1000) := by decide

theorem test_decode_sub : decodeWord 0x409780B3#32 = .ok (.sub 1#5 15#5 9#5) := by decide

theorem test_step_sub :
    resultOn ref [0xB3, 0x80, 0x97, 0x40] 0x1000 = some (delivered 29 [x 1, x 15, x 9] 0x1000) := by decide

theorem test_decode_sll : decodeWord 0x01E11CB3#32 = .ok (.sll 25#5 2#5 30#5) := by decide

theorem test_step_sll :
    resultOn ref [0xB3, 0x1C, 0xE1, 0x01] 0x1000 = some (delivered 30 [x 25, x 2, x 30] 0x1000) := by decide

theorem test_decode_slt : decodeWord 0x00E5A733#32 = .ok (.slt 14#5 11#5 14#5) := by decide

theorem test_step_slt :
    resultOn ref [0x33, 0xA7, 0xE5, 0x00] 0x1000 = some (delivered 31 [x 14, x 11, x 14] 0x1000) := by decide

theorem test_decode_sltu : decodeWord 0x004CBAB3#32 = .ok (.sltu 21#5 25#5 4#5) := by decide

theorem test_step_sltu :
    resultOn ref [0xB3, 0xBA, 0x4C, 0x00] 0x1000 = some (delivered 32 [x 21, x 25, x 4] 0x1000) := by decide

theorem test_decode_xor : decodeWord 0x0022CE33#32 = .ok (.xor 28#5 5#5 2#5) := by decide

theorem test_step_xor :
    resultOn ref [0x33, 0xCE, 0x22, 0x00] 0x1000 = some (delivered 33 [x 28, x 5, x 2] 0x1000) := by decide

theorem test_decode_srl : decodeWord 0x00ECD333#32 = .ok (.srl 6#5 25#5 14#5) := by decide

theorem test_step_srl :
    resultOn ref [0x33, 0xD3, 0xEC, 0x00] 0x1000 = some (delivered 34 [x 6, x 25, x 14] 0x1000) := by decide

theorem test_decode_sra : decodeWord 0x406A57B3#32 = .ok (.sra 15#5 20#5 6#5) := by decide

theorem test_step_sra :
    resultOn ref [0xB3, 0x57, 0x6A, 0x40] 0x1000 = some (delivered 35 [x 15, x 20, x 6] 0x1000) := by decide

theorem test_decode_or : decodeWord 0x00CC62B3#32 = .ok (.or 5#5 24#5 12#5) := by decide

theorem test_step_or :
    resultOn ref [0xB3, 0x62, 0xCC, 0x00] 0x1000 = some (delivered 36 [x 5, x 24, x 12] 0x1000) := by decide

theorem test_decode_and : decodeWord 0x00D3FDB3#32 = .ok (.and 27#5 7#5 13#5) := by decide

theorem test_step_and :
    resultOn ref [0xB3, 0xFD, 0xD3, 0x00] 0x1000 = some (delivered 37 [x 27, x 7, x 13] 0x1000) := by decide

/-! ### System -/

theorem test_decode_ecall : decodeWord 0x00000073#32 = .ok .ecall := by decide

theorem test_step_ecall :
    resultOn ref [0x73, 0x00, 0x00, 0x00] 0x1000 = some (delivered 38 [] 0x1000) := by decide

theorem test_decode_ebreak : decodeWord 0x00100073#32 = .ok .ebreak := by decide

theorem test_step_ebreak :
    resultOn ref [0x73, 0x00, 0x10, 0x00] 0x1000 = some (delivered 39 [] 0x1000) := by decide

/-! ### FloatMem -/

theorem test_decode_flw : decodeWord 0xFFF22587#32 = .ok (.flw 11#5 4#5 0xFFF#12) := by decide

theorem test_step_flw :
    resultOn ref [0x87, 0x25, 0xF2, 0xFF] 0x1000 = some (delivered 40 [f 11, x 4, imm (-1)] 0x1000) := by decide

theorem test_decode_fld : decodeWord 0xDD55B707#32 = .ok (.fld 14#5 11#5 0xDD5#12) := by decide

theorem test_step_fld :
    resultOn ref [0x07, 0xB7, 0x55, 0xDD] 0x1000 = some (delivered 41 [d 14, x 11, imm (-555)] 0x1000) := by decide

theorem test_decode_fsw : decodeWord 0xC235A4A7#32 = .ok (.fsw 3#5 11#5 0xC29#12) := by decide

theorem test_step_fsw :
    resultOn ref [0xA7, 0xA4, 0x35, 0xC2] 0x1000 = some (delivered 42 [f 3, x 11, imm (-983)] 0x1000) := by decide

theorem test_decode_fsd : decodeWord 0x10173EA7#32 = .ok (.fsd 1#5 14#5 0x11D#12) := by decide

theorem test_step_fsd :
    resultOn ref [0xA7, 0x3E, 0x17, 0x10] 0x1000 = some (delivered 43 [d 1, x 14, imm 285] 0x1000) := by decide

/-! ### FloatReg -/

theorem test_decode_fsgnjS : decodeWord 0x21620BD3#32 = .ok (.fsgnjS 23#5 4#5 22#5) := by decide

theorem test_step_fsgnjS :
    resultOn ref [0xD3, 0x0B, 0x62, 0x21] 0x1000 = some (delivered 44 [f 23, f 4, f 22] 0x1000) := by decide

theorem test_decode_fsgnjD : decodeWord 0x23BF8A53#32 = .ok (.fsgnjD 20#5 31#5 27#5) := by decide

theorem test_step_fsgnjD :
    resultOn ref [0x53, 0x8A, 0xBF, 0x23] 0x1000 = some (delivered 45 [d 20, d 31, d 27] 0x1000) := by decide

theorem test_decode_fmvXW : decodeWord 0xE0040D53#32 = .ok (.fmvXW 26#5 8#5) := by decide

theorem test_step_fmvXW :
    resultOn ref [0x53, 0x0D, 0x04, 0xE0] 0x1000 = some (delivered 46 [x 26, f 8] 0x1000) := by decide

theorem test_decode_fmvWX : decodeWord 0xF0080CD3#32 = .ok (.fmvWX 25#5 16#5) := by decide

theorem test_step_fmvWX :
    resultOn ref [0xD3, 0x0C, 0x08, 0xF0] 0x1000 = some (delivered 47 [f 25, x 16] 0x1000) := by decide

/-! ## The source's own examples and what REF does not recognise (sections 1, 2.1, 2.2) -/

theorem test_source_word_assembles : assemble 0x13 0x05 0x10 0x00 = 0x00100513#32 := by decide

theorem test_source_example :
    resultOn ref [0x13, 0x05, 0x10, 0x00] 0 = some (delivered 19 [x 10, x 0, imm 1] 0) := by decide

theorem test_source_example_prose :
    resultOn ref [0x13, 0x00, 0x10, 0x00] 0 = some (delivered 19 [x 0, x 0, imm 1] 0) := by decide

theorem test_three_bytes_are_insufficient :
    resultOn ref [0x13, 0x05, 0x10] 0 = some (failed .insufficientInput 0) ∧
    resultOn ref [0xFF, 0xFF, 0xFF] 0 = some (failed .insufficientInput 0) ∧
    resultOn ref [] 0 = some (failed .insufficientInput 0) := by decide

theorem test_fifth_byte_is_not_read :
    resultOn ref [0x13, 0x00, 0x10, 0x00, 0xFF] 0 = some (delivered 19 [x 0, x 0, imm 1] 0) := by decide

theorem test_unlisted_opcodes :
    resultOn ref [0x00, 0x00, 0x00, 0x00] 0 = some (failed .unrecognizedEncoding 4) ∧
    resultOn ref [0xFF, 0xFF, 0xFF, 0xFF] 0 = some (failed .unrecognizedEncoding 4) ∧
    resultOn ref [0x7F, 0x00, 0x00, 0x00] 0 = some (failed .unrecognizedEncoding 4) := by decide

theorem test_unlisted_funct3 :
    walk 0x00003003 ref = none ∧ walk 0x00002063 ref = none ∧ walk 0x00001067 ref = none := by decide

theorem test_unlisted_funct7 :
    walk 0x02A5D513 ref = none ∧ walk 0x02001013 ref = none ∧ walk 0x40001033 ref = none ∧
    walk 0x02000033 ref = none ∧ walk 0x20001053 ref = none ∧ walk 0xE0100053 ref = none := by decide

theorem test_system_needs_all_bits : walk 0x00200073 ref = none ∧ walk 0x00000873 ref = none := by decide

theorem test_branches_visited :
    branchesVisited 0x00000000 ref = 1 ∧ branchesVisited 0x00100513 ref = 2 ∧
    branchesVisited 0x40A5D513 ref = 3 ∧ branchesVisited 0xE0040D53 ref = 4 := by decide

theorem test_fields :
    field 0x80208063 immBAt = 0x800 ∧ field 0xFE752E23 immSAt = 0xFFC ∧ field 0x0080006F immJAt = 4 ∧
    field 0xDEADBEEF [⟨3, 0⟩, ⟨31, 28⟩] = 0xFD ∧ field 0xDEADBEEF [⟨15, 8⟩, ⟨15, 8⟩] = 0xBEBE := by decide

theorem test_decode_table_word :
    decodeTableWord 32 0x00100513 = some (.addi 10 0 1) ∧ decodeTableWord 32 0 = none := by decide

theorem test_placed_word_runs_first :
    resOf (step (State.reset.withFetchWord 32 0x00100513)) = some (delivered 19 [x 10, x 0, imm 1] 0) := by decide

theorem test_placed_word_mends_the_length :
    (State.withFetchWord { State.reset with len := 10 } 32 0x00100513).len = 4 ∧
    (State.withFetchWord (calling ref [1, 2, 3, 4, 5] 0) 32 0x00100513).len = 5 := by decide

/-! ## Registers at the boundary (section 2.3) -/

theorem test_boundary_index :
    resolveGpr RegTab.reference 31 = some (x 31) ∧ resolveGpr RegTab.reference 32 = none ∧
    resolveFpr32 RegTab.reference 31 = some (f 31) ∧ resolveFpr32 RegTab.reference 32 = none ∧
    resolveFpr64 RegTab.reference 31 = some (d 31) ∧ resolveFpr64 RegTab.reference 32 = none ∧
    resolveGpr RegTab.reference 100 = none := by decide

theorem test_reg6_last_entries :
    resultOn tableReg6 [0x8B, 0xEF, 0xFB, 0x00] 0 = some (delivered 100 [x 31, f 31, d 31] 0) := by decide

theorem test_reg6_first_bad_index :
    resultOn tableReg6 [0x0B, 0x10, 0x00, 0x00] 0 = some (failed .invalidOperand 4) ∧
    resultOn tableReg6 [0x8B, 0x0F, 0xFC, 0x00] 0 = some (failed .invalidOperand 4) ∧
    resultOn tableReg6 [0x0B, 0x00, 0x00, 0x01] 0 = some (failed .invalidOperand 4) := by decide

theorem test_reg6_unused_bits :
    resultOn tableReg6 [0x8B, 0x40, 0x18, 0xFE] 0 = some (delivered 100 [x 1, f 2, d 3] 0) := by decide

/-! ## Immediates (section 2.4) -/

theorem test_signed_immediates :
    resolveSimm 12 0xFFF = some (imm (-1)) ∧ resolveSimm 12 0x7FF = some (imm 2047) ∧
    resolveSimm 12 0x800 = some (imm (-2048)) := by decide

theorem test_shifted_immediates :
    resolveSimmLsl1 13 0 = some (imm 0) ∧ resolveSimmLsl1 13 0x800 = some (imm (-4096)) := by decide

theorem test_unsigned_immediates :
    resolveUimm 0x80000 = some (imm 524288) ∧ resolveUimm 0x1F = some (imm 31) := by decide

/-! ## The most-specific rule (section 2.7) -/

theorem test_ovl_select :
    selectLeaf [rowGen, rowSpec] 0x0000100B = some leafSpec ∧ selectLeaf [rowGen, rowSpec] 0x0000200B = some leafGen ∧
    selectLeaf [rowGen, rowSpec] 0x0000100C = none := by decide

theorem test_ovl_results :
    resultOn tableOvl [0x0B, 0x15, 0x00, 0x00] 0 = some (delivered 201 [x 10] 0) ∧
    resultOn tableOvl [0x0B, 0xF0, 0xFF, 0xFF] 0 = some (delivered 200 [imm 33554400] 0) ∧
    resultOn tableOvl [0x0C, 0x10, 0x00, 0x00] 0 = some (failed .unrecognizedEncoding 4) := by decide

/-! ## Ports (spec/10_state.md R27) and a sweep (section 3.5) -/

theorem test_ports_of_a_success :
    portsOf p0 (delivered 20 [x 10, imm (-1)] 0x40) 0x99 =
      ⟨0, 4, 20, 2, [⟨1, 11⟩, ⟨2, 0xFFFFFFFFFFFFFFFF⟩, ⟨0, 0⟩, ⟨0, 0⟩, ⟨0, 0⟩, ⟨0, 0⟩, ⟨0, 0⟩, ⟨0, 0⟩], 4, 0x40⟩ := by
  decide

theorem test_ports_of_the_failures :
    (portsOf p0 (failed .insufficientInput 0) 0).status = 1 ∧ (portsOf p0 (failed .insufficientInput 0) 0).consumed = 0 ∧
    (portsOf p0 (failed .unrecognizedEncoding 4) 0).status = 2 ∧
    (portsOf p0 (failed .unrecognizedEncoding 4) 0).consumed = 4 ∧
    (portsOf p0 (failed .invalidOperand 4) 0).status = 3 ∧ (portsOf p0 (failed .invalidOperand 4) 0).consumed = 4 := by
  decide

theorem test_sweep_address_wraps :
    (sweep { p0 with addrW := 8 } ref RegTab.reference [0x73, 0, 0, 0, 0x73, 0, 0, 0] 0xFC).map (·.1) = [0xFC, 0] := by
  decide

theorem test_sweep_stops_on_the_tail :
    sweep p0 tableReg6 RegTab.reference [0x0B, 0x50, 0x18, 0x00, 0x8B, 0x40] 0x404 =
      [(0x404, failed .invalidOperand 4), (0x408, failed .insufficientInput 0)] := by decide

/-! ## Witnesses: concrete values that meet the premises of each obligation -/

/-- A state that runs REF, presents a word, and the word meets a mask and pattern. -/
abbrev met (w mask pattern : Word) : Prop :=
  (holding w).runsRef ∧ (holding w).presents w ∧ w &&& mask = pattern

/-- A table that WF2 refuses. -/
def twice : Node := .branch ⟨1, 0⟩ (.cons 2 .unmatched (.cons 2 .unmatched .nil))

/-- A call under REF whose length is not the real one of its span. -/
def lying (bs : List Byte) (n : Nat) : State := { calling ref bs 0 with len := n }

/-- The machine with other widths: `FEATURES` of 1 bit, an address of 3 bits, a length of 3 bits, opcode identifiers
of 6 bits, register identifiers of 7 bits, 3 operand slots and 4 branch levels. -/
def small : State := startUp ⟨1, 3, 3, 6, 7, 3, 4⟩ ref RegTab.reference

theorem test_small_machine_decodes :
    resOf (step (present [0x13, 0x05, 0x10, 0x00] 7 small)) = some (delivered 19 [x 10, x 0, imm 1] 7) := by decide

theorem witness_FeaturesOtherThanAllOnesAreRefused :
    ({ State.reset with features := 0 } : State).features ≠ 2 ^ 64 - 1 ∧
    ({ State.reset with features := 0x7FFFFFFFFFFFFFFF } : State).features ≠ 2 ^ 64 - 1 ∧
    ({ small with features := 0 } : State).features ≠ 2 ^ small.params.featureW - 1 := by decide

theorem witness_InputsWiderThanTheirPortsAreRefused :
    small.features = 2 ^ small.params.featureW - 1 ∧
    2 ^ small.params.lenW ≤ ({ small with len := 8 } : State).len ∧
    2 ^ small.params.addrW ≤ ({ small with addr := 8 } : State).addr ∧
    2 ^ (6 : Nat) ≤ (classTable RegTab.reference .fpr64)[0] ∧
    portsFit { small with params := { small.params with regW := 6 } } = false := by decide

theorem witness_IllFormedTablesAreRefused :
    (calling twice [] 0).features = 2 ^ (calling twice [] 0).params.featureW - 1 ∧ portsFit (calling twice [] 0) = true ∧
    illFormed p0 (calling twice [] 0).table ∧ illFormed p0 (.leaf ⟨0, []⟩) ∧
    illFormed p0 (.leaf ⟨1, [⟨.simmLsl1, 12, immBAt⟩]⟩) ∧ illFormed p0 (.leaf ⟨1, [⟨.simm, 65, immIAt⟩]⟩) :=
  ⟨by decide, by decide, .inr ⟨_, _, _, .here _, .inr (.inl (by decide))⟩, .inl ⟨_, _, .here _, .inl rfl⟩,
    .inl ⟨_, _, .here _, .inr (.inr (.inr ⟨_, .head _, by unfold badSpec; decide⟩))⟩,
    .inl ⟨_, _, .here _, .inr (.inr (.inr ⟨_, .head _, by unfold badSpec; decide⟩))⟩⟩

theorem test_untruthful_lengths :
    step (lying [0x13, 0x05, 0x10] 4) = .refused .lengthBeyondSpan ∧
    step (lying [0x13, 0x05, 0x10, 0x00] 10) = .refused .lengthBeyondSpan ∧
    step (lying [0x13, 0x05, 0x10, 0x00] 0xFFFFFFFFFFFFFFFF) = .refused .lengthBeyondSpan ∧
    step (lying [] 3) = .refused .lengthBeyondSpan ∧
    resOf (step (lying [0x13, 0x05, 0x10, 0x00, 0xFF] 4)) = some (delivered 19 [x 10, x 0, imm 1] 0) :=
  ⟨rfl, rfl, rfl, rfl, rfl⟩

theorem witness_LengthsBeyondTheSpanAreRefused :
    (lying [] 1).configured ∧ (∃ k < 1, bufRead (lying [] 1) k = none) ∧
    (lying [0x13, 0x05, 0x10, 0x00] 5).configured ∧ ∃ k < 5, bufRead (lying [0x13, 0x05, 0x10, 0x00] 5) k = none :=
  ⟨by decide, ⟨0, by decide⟩, by decide, 4, by decide⟩

theorem witness_StepIsTheCompleteCall :
    (present [0x13, 0x05, 0x10, 0x00] 0xFFFFFFFFFFFFFFFF State.reset).configured ∧
    (present [0x13, 0x05, 0x10, 0x00] 7 small).configured := by decide

theorem witness_EveryTruthfulCallEndsWithAResult :
    (calling ref [0x13] 0).configured ∧ (calling ref [0x13] 0).truthful ∧
    (holding 0x00100513).configured ∧ (holding 0x00100513).truthful := by decide

theorem witness_LengthBelowFourIsInsufficientInput :
    (calling ref [] 0).configured ∧ (calling ref [] 0).len = 0 ∧
    (calling ref [0x13, 0x05, 0x10] 0).configured ∧ (calling ref [0x13, 0x05, 0x10] 0).len = 3 ∧
    (calling ref [0x13, 0x05, 0x10] 0).truthful ∧
    (calling ref [0x13, 0x05, 0x10, 0x00, 0xFF] 0).configured ∧ 5 < 2 ^ p0.lenW ∧
    ({ calling ref [0x13, 0x05, 0x10, 0x00, 0xFF] 0 with len := 5 } : State).truthful := by decide

theorem witness_UnmatchedWordIsUnrecognizedEncoding :
    (holding 0x0000007F).configured ∧ (holding 0x0000007F).presents 0x0000007F ∧
    walk 0x0000007F (holding 0x0000007F).table = none := by decide

/-- The leaf of T-REG6. -/
def leafReg6 : Leaf := ⟨100, [⟨.gpr, 6, [⟨12, 7⟩]⟩, ⟨.fpr32, 6, [⟨18, 13⟩]⟩, ⟨.fpr64, 6, [⟨24, 19⟩]⟩]⟩

/-- T-REG6 with a word presented. -/
def holding6 (w : Word) : State := calling tableReg6 (wordBytes w) 0

theorem witness_MatchedLeafFailsExactlyOnABadIndex :
    (holding6 0x0000100B).configured ∧ (holding6 0x0000100B).presents 0x0000100B ∧
    walk 0x0000100B (holding6 0x0000100B).table = some leafReg6 ∧ badIndex leafReg6 0x0000100B ∧
    (holding6 0x00FBEF8B).configured ∧ (holding6 0x00FBEF8B).presents 0x00FBEF8B ∧
    walk 0x00FBEF8B (holding6 0x00FBEF8B).table = some leafReg6 ∧ ¬ badIndex leafReg6 0x00FBEF8B := by
  unfold badIndex; decide

theorem witness_OperandsFollowTheLeafInOrder :
    (holding6 0x00FBEF8B).configured ∧ (holding6 0x00FBEF8B).presents 0x00FBEF8B ∧
    walk 0x00FBEF8B (holding6 0x00FBEF8B).table = some leafReg6 ∧
    [x 31, f 31, d 31].map some =
      leafReg6.operands.map (resolveSpec (holding6 0x00FBEF8B).regtab 0x00FBEF8B) := by decide

theorem witness_SixBitRegisterFieldsAreBoundChecked :
    (holding6 0x00FBEF8B).configured ∧ (holding6 0x00FBEF8B).table = tableReg6 ∧
    (holding6 0x00FBEF8B).presents (wordReg6 0 31 31 31) ∧
    (holding6 0x0000100B).presents (wordReg6 0 0 0 32) ∧ (holding6 0x00FC0F8B).presents (wordReg6 0 31 32 31) ∧
    (holding6 0x0100000B).presents (wordReg6 0 32 0 0) := by decide

theorem witness_CallLawsHold :
    (∃ r, (holding 0x00100513).configured ∧ (holding 0x00100513).presents 0x00100513 ∧
      step (holding 0x00100513) = .next { holding 0x00100513 with result := some r } ∧ r.status = .success) ∧
    (∃ r, (calling ref [0x13] 0).configured ∧
      step (calling ref [0x13] 0) = .next { calling ref [0x13] 0 with result := some r } ∧
      r.status = .insufficientInput) ∧
    ({ holding 0x00100513 with addr := 8 } : State).presents 0x00100513 ∧
    ({ holding 0x00100513 with addr := 8 } : State).configured :=
  ⟨⟨_, by decide, by decide, rfl, by decide⟩, ⟨_, by decide, rfl, by decide⟩, by decide, by decide⟩

theorem witness_RepeatingACallChangesNothing : ∃ t, step (holding 0x00100513) = .next t := ⟨_, rfl⟩

theorem witness_StepChangesOnlyTheResult : ∃ t, step (holding 0x0000007F) = .next t := ⟨_, rfl⟩

theorem witness_MeaningsChangeOnlyTheResult : ∃ t, exec (.addi 10 0 1) (holding 0x00100513) = .next t := ⟨_, rfl⟩

/-- A table other than REF with a leaf of REF. -/
def onlyAddi : Node := onOpcode [(0x13, .leaf leafAddi)]

theorem witness_StepRunsTheDecodedInstruction :
    (holding 0x00100513).runsRef ∧ (holding 0x00100513).presents 0x00100513 ∧
    decode [(0x00100513#32).extractLsb' 0 8, (0x00100513#32).extractLsb' 8 8, (0x00100513#32).extractLsb' 16 8,
      (0x00100513#32).extractLsb' 24 8] = .ok (.addi 10 0 1) ∧
    (calling onlyAddi [0x13, 0x15, 0x10, 0x00] 0).configured ∧
    (calling onlyAddi [0x13, 0x15, 0x10, 0x00] 0).presents 0x00101513 ∧
    walk 0x00101513 onlyAddi = some leafAddi ∧ instrOf leafAddi 0x00101513 = some (.addi 10 0 1) := by decide

theorem witness_StepKeepsInvariant : State.reset.Inv ∧ ∃ t, step State.reset = .next t :=
  ⟨⟨rfl, fun r h => by cases h⟩, _, rfl⟩

theorem witness_PlacedWordIsPresented :
    4 ≤ 4 ∧ Memory.wf (calling ref [0x13, 0x05, 0x10, 0x00, 0xFF] 0).span = true := by decide

/-- For WalkIsTheFlatPattern, RowsOfAWellFormedTableAreDisjoint, TablesConstructTheirRows and WalkDepthIsBounded. -/
theorem witness_WellFormedTables : tableOk p0 ref = true ∧ tableOk p0 (.leaf okLeaf) = true ∧ tableOk p0 tableOvl = true := by
  decide

theorem witness_MoreSpecificRowWins : 0x0000000B#32 &&& 0x000003FF#32 = 0x0000000B#32 := by decide

theorem witness_ReservedWordsAreUnrecognized :
    (holding 0x02000033).runsRef ∧ (holding 0x02000033).presents 0x02000033 ∧ reservedInRef 0x02000033 := by
  unfold reservedInRef; decide

theorem witness_AssemblyIsABijection :
    (holding 0x00100513).configured ∧ (holding 0x00100513).presents 0x00100513 ∧
    ({ holding 0x00100513 with span := spanOf [0x13, 0x05, 0x10, 0x00, 0xFF] } : State).presents 0x00100513 ∧
    ∃ r, step (holding 0x00100513) = .next { holding 0x00100513 with result := some r } :=
  ⟨by decide, by decide, by decide, _, rfl⟩

theorem witness_FieldTakesTheNamedBits : 0 ≤ 31 ∧ 31 ≤ 31 ∧ (field 0x80000000 [⟨31, 31⟩]).testBit 0 = true := by decide

theorem witness_RegisterResolversCheckTheElementCount : 31 < 32 ∧ 32 ≤ 32 := by decide

theorem witness_UnsignedImmediateIsVerbatim : 0xFFFFFFFF < 2 ^ 32 := by decide

theorem witness_SignedImmediateIsTwosComplement :
    (1 ≤ 1 ∧ 1 ≤ 64) ∧ (1 ≤ 64 ∧ 64 ≤ 64) ∧ sext 1 1 = BitVec.ofInt 64 (-1) ∧
    sext 64 0x8000000000000000 = 0x8000000000000000 := by decide

theorem witness_ImplicitLowBitImmediateIsShiftedFirst :
    (2 ≤ 2 ∧ 2 ≤ 64) ∧ (2 ≤ 64 ∧ 64 ≤ 64) ∧ resolveSimmLsl1 2 1 = some (imm (-2)) := by decide

theorem witness_ImmediateIdentitiesHold :
    (12 ≤ 13 - 1 ∧ 2 ≤ 13 ∧ 13 ≤ 64 ∧ 0xFFF < 2 ^ 12) ∧ (12 < 13 ∧ 13 ≤ 64 ∧ 0xFFF < 2 ^ 12) := by decide

theorem witness_PortsCarryTheRecord :
    (List.replicate 8 (x 3)).length ≤ p0.maxOperands ∧ p0.maxOperands ≤ 15 ∧
    (List.replicate 8 (x 3))[7]? = some (x 3) ∧ 4 < 2 ^ 64 ∧ [imm 5][0]? = some (imm 5) := by decide

theorem witness_PortsCarryTheRecord_failures :
    step (calling ref [0x13] 0) = .next { calling ref [0x13] 0 with result := some (failed .insufficientInput 0) } ∧
    step (holding 0) = .next { holding 0 with result := some (failed .unrecognizedEncoding 4) } ∧
    step (holding6 0x0000100B) = .next { holding6 0x0000100B with result := some (failed .invalidOperand 4) } :=
  ⟨rfl, rfl, rfl⟩

theorem witness_EncodeInvertsDecode : decodeWord 0x00100513 = .ok (.addi 10 0 1) := by decide

theorem witness_UpperJumpWordsDeliverTheirRecords :
    met 0x592379B7 0x0000007F 0x00000037 ∧ met 0xBF0BEF17 0x0000007F 0x00000017 ∧
    met 0x564B8A6F 0x0000007F 0x0000006F ∧ met 0xA7E70A67 0x0000707F 0x00000067 := by
  decide

theorem witness_BranchWordsDeliverTheirRecords :
    met 0xE88C8263 0x0000707F 0x00000063 ∧ met 0x659E11E3 0x0000707F 0x00001063 ∧
    met 0x53F5C5E3 0x0000707F 0x00004063 ∧ met 0x52A4DAE3 0x0000707F 0x00005063 ∧
    met 0x4A486063 0x0000707F 0x00006063 ∧ met 0x35E9F263 0x0000707F 0x00007063 := by
  refine ⟨?_, ?_, ?_, ?_, ?_, ?_⟩ <;> decide

theorem witness_LoadWordsDeliverTheirRecords :
    met 0xC6658283 0x0000707F 0x00000003 ∧ met 0x5CCF1783 0x0000707F 0x00001003 ∧
    met 0xEFD6A283 0x0000707F 0x00002003 ∧ met 0x43C2CD83 0x0000707F 0x00004003 ∧
    met 0x8B12D083 0x0000707F 0x00005003 := by
  refine ⟨?_, ?_, ?_, ?_, ?_⟩ <;> decide

theorem witness_StoreWordsDeliverTheirRecords :
    met 0x6F648F23 0x0000707F 0x00000023 ∧ met 0x45F99F23 0x0000707F 0x00001023 ∧
    met 0x1846A8A3 0x0000707F 0x00002023 := by
  decide

theorem witness_RegImmWordsDeliverTheirRecords :
    met 0xA0E08913 0x0000707F 0x00000013 ∧ met 0x64AE2093 0x0000707F 0x00002013 ∧
    met 0xC51EB793 0x0000707F 0x00003013 ∧ met 0x625EC513 0x0000707F 0x00004013 ∧
    met 0x8DC06E13 0x0000707F 0x00006013 ∧ met 0xA4D97013 0x0000707F 0x00007013 := by
  refine ⟨?_, ?_, ?_, ?_, ?_, ?_⟩ <;> decide

theorem witness_ShiftImmWordsDeliverTheirRecords :
    met 0x01659D13 0xFE00707F 0x00001013 ∧ met 0x00015193 0xFE00707F 0x00005013 ∧
    met 0x4081DE93 0xFE00707F 0x40005013 := by
  decide

theorem witness_RegRegWordsDeliverTheirRecords :
    met 0x004D02B3 0xFE00707F 0x00000033 ∧ met 0x409780B3 0xFE00707F 0x40000033 ∧
    met 0x01E11CB3 0xFE00707F 0x00001033 ∧ met 0x00E5A733 0xFE00707F 0x00002033 ∧
    met 0x004CBAB3 0xFE00707F 0x00003033 ∧ met 0x0022CE33 0xFE00707F 0x00004033 ∧
    met 0x00ECD333 0xFE00707F 0x00005033 ∧ met 0x406A57B3 0xFE00707F 0x40005033 ∧
    met 0x00CC62B3 0xFE00707F 0x00006033 ∧ met 0x00D3FDB3 0xFE00707F 0x00007033 := by
  refine ⟨?_, ?_, ?_, ?_, ?_, ?_, ?_, ?_, ?_, ?_⟩ <;> decide

theorem witness_SystemWordsDeliverTheirRecords :
    met 0x00000073 0xFFFFFFFF 0x00000073 ∧ met 0x00100073 0xFFFFFFFF 0x00100073 := by
  decide

theorem witness_FloatMemWordsDeliverTheirRecords :
    met 0xFFF22587 0x0000707F 0x00002007 ∧ met 0xDD55B707 0x0000707F 0x00003007 ∧
    met 0xC235A4A7 0x0000707F 0x00002027 ∧ met 0x10173EA7 0x0000707F 0x00003027 := by
  decide

theorem witness_FloatRegWordsDeliverTheirRecords :
    met 0x21620BD3 0xFE00707F 0x20000053 ∧ met 0x23BF8A53 0xFE00707F 0x22000053 ∧
    met 0xE0040D53 0xFFF0707F 0xE0000053 ∧ met 0xF0080CD3 0xFFF0707F 0xF0000053 := by
  decide

end Sys2Proof.Tests
end

section
/-! PROOF. The length of a call (spec/40_bitfield_extractor.md R101): below 4 it ends the call, and from 4 on no later
stage reads it. -/

namespace Sys2Proof.BitfieldExtractor

open Sys2Proof.Machine Sys2Proof.Laws

variable {s : State} {n : Nat}

/-- The ports of a state fit at another length exactly as far as that length does (R26). -/
theorem portsFit_withLen (hp : portsFit s = true) (hn : n < 2 ^ s.params.lenW) :
    portsFit { s with len := n } = true := by
  simp only [portsFit, Bool.and_eq_true, decide_eq_true_eq] at hp ⊢
  obtain ⟨⟨-, haddr⟩, hregs⟩ := hp
  exact ⟨⟨hn, haddr⟩, hregs⟩

/-- A configured machine stays configured at any length that its port has bits for. -/
theorem configured_withLen (hc : s.configured) (hn : n < 2 ^ s.params.lenW) :
    State.configured { s with len := n } := by
  obtain ⟨hfeatures, hports, htable⟩ := hc
  exact ⟨hfeatures, portsFit_withLen hports hn, htable⟩

/-- A length below a truthful one is truthful (R343 b). -/
theorem truthful_withLen_of_le {m : Nat} (hmn : m ≤ n) (ht : State.truthful { s with len := n }) :
    State.truthful { s with len := m } :=
  fun k hk => ht k (Nat.lt_of_lt_of_le hk hmn)

/-- From 4 on, the result of a call is that of the word fetched, into which the length does not enter (R101). -/
theorem callResult_withLen (hn : 4 ≤ n) :
    callResult { s with len := n } =
      (fetchWord s).map fun w => decodeWordWith s.table s.regtab w s.addr :=
  if_neg (Nat.not_lt.mpr hn)

/-- A configured call with a truthful length ends with exactly the result of `callResult`. -/
theorem endsWith_iff_callResult (hc : s.configured) (ht : s.truthful) (r : Result) :
    endsWith (step s) s r ↔ callResult s = some r := by
  obtain ⟨q, hq, hstep⟩ := step_of_truthful hc ht
  simp [endsWith, hstep, hq]

/-- Settles O8: the check of the length ends a call with fewer than 4 bytes, and of any two truthful lengths from 4 on
`callResult` says the same. -/
theorem lengthBelowFourIsInsufficientInput : Obligations.LengthBelowFourIsInsufficientInput := by
  refine ⟨fun s hc ht hlen => call_of_short hc ht hlen, fun s n r hc hn hfits ht => ?_⟩
  have hlong := endsWith_iff_callResult (configured_withLen hc hfits) ht r
  have hfour := endsWith_iff_callResult (configured_withLen hc (Nat.lt_of_le_of_lt hn hfits))
    (truthful_withLen_of_le hn ht) r
  rw [callResult_withLen hn] at hlong
  rw [callResult_withLen (Nat.le_refl 4)] at hfour
  exact hlong.trans hfour.symm

end Sys2Proof.BitfieldExtractor
end

section
/-! PROOF. The register resolvers (spec/42_register_resolvers.md R130 to R134): each is the one bounded lookup
`lookupReg` at its own class. -/

namespace Sys2Proof.RegisterResolvers

open Sys2Proof.Machine Sys2Proof.Laws

/-- Settles O32: below the element count the bounded lookup reads the class's own table, and from it on it reads
nothing; each resolver is that lookup at its class. -/
theorem registerResolversCheckTheElementCount : Obligations.RegisterResolversCheckTheElementCount := by
  intro t raw
  constructor
  · intro hlt
    exact ⟨lookupReg_of_lt t .gpr hlt, lookupReg_of_lt t .fpr32 hlt, lookupReg_of_lt t .fpr64 hlt⟩
  · intro hge
    exact ⟨lookupReg_of_ge t .gpr hge, lookupReg_of_ge t .fpr32 hge, lookupReg_of_ge t .fpr64 hge⟩

end Sys2Proof.RegisterResolvers
end

section
/-! PROOF. The immediate resolvers (spec/43_immediate_resolvers.md R140 to R142). `sext` is described once, by its
range, its residue and its sign; the two signed resolvers are `sext` at the raw field and at its double. -/

namespace Sys2Proof.ImmediateResolvers

open Sys2Proof.Machine Sys2Proof.Laws

section Sext

variable {n v : Nat}

/-- The 64-bit immediate keeps the value that the low `N` bits have as a two's-complement number (R9). -/
theorem sext_toInt (hpos : 1 ≤ n) (hle : n ≤ 64) : (sext n v).toInt = (BitVec.ofNat n v).toInt := by
  rw [sext_eq_signExtend n v hpos, BitVec.toInt_signExtend_of_le hle]

/-- The least value of `N` bits (R141). -/
theorem le_sext_toInt (hpos : 1 ≤ n) (hle : n ≤ 64) : -(2 ^ (n - 1) : Int) ≤ (sext n v).toInt := by
  rw [sext_toInt hpos hle]
  exact BitVec.le_toInt _

/-- The greatest value of `N` bits (R141). -/
theorem sext_toInt_le (hpos : 1 ≤ n) (hle : n ≤ 64) : (sext n v).toInt ≤ 2 ^ (n - 1) - 1 := by
  rw [sext_toInt hpos hle]
  exact BitVec.toInt_le

/-- Sign extension changes a number by a multiple of `2^N` only (R146). -/
theorem sext_toInt_emod (hpos : 1 ≤ n) (hle : n ≤ 64) : (sext n v).toInt % 2 ^ n = (v : Int) % 2 ^ n := by
  rw [sext_toInt hpos hle, BitVec.toInt_ofNat']
  exact_mod_cast Int.bmod_emod (x := v) (m := 2 ^ n)

/-- The sign is bit `N-1` of the argument (R141). -/
theorem sext_toInt_neg_iff (hpos : 1 ≤ n) (hle : n ≤ 64) : (sext n v).toInt < 0 ↔ v.testBit (n - 1) = true := by
  have hlast : n - 1 < n := Nat.sub_lt hpos Nat.one_pos
  have hmsb : (BitVec.ofNat n v).msb = v.testBit (n - 1) := by
    rw [BitVec.msb_eq_getLsbD_last, BitVec.getLsbD_ofNat, decide_eq_true hlast, Bool.true_and]
  rw [sext_toInt hpos hle, ← hmsb, BitVec.msb_eq_toInt, decide_eq_true_iff]

/-- The sign extension of a double is even: the two differ by a multiple of `2^N`. -/
theorem sext_two_mul_toInt_even (hpos : 1 ≤ n) (hle : n ≤ 64) (raw : Nat) : (sext n (2 * raw)).toInt % 2 = 0 := by
  have htwo : (2 : Int) ∣ 2 ^ n := dvd_pow_self 2 (Nat.one_le_iff_ne_zero.mp hpos)
  calc (sext n (2 * raw)).toInt % 2
      = (sext n (2 * raw)).toInt % 2 ^ n % 2 := (Int.emod_emod_of_dvd _ htwo).symm
    _ = ((2 * raw : Nat) : Int) % 2 ^ n % 2 := by rw [sext_toInt_emod hpos hle]
    _ = ((2 * raw : Nat) : Int) % 2 := Int.emod_emod_of_dvd _ htwo
    _ = 0 := by omega

/-- The greatest even value of `N` bits, `N` at least 2 (R142). -/
theorem sext_two_mul_toInt_le (htwo : 2 ≤ n) (hle : n ≤ 64) (raw : Nat) :
    (sext n (2 * raw)).toInt ≤ 2 ^ (n - 1) - 2 := by
  have hpos : 1 ≤ n := Nat.le_of_succ_le htwo
  have hmax := sext_toInt_le (v := 2 * raw) hpos hle
  have heven := sext_two_mul_toInt_even hpos hle raw
  have hpow : (2 : Int) ∣ 2 ^ (n - 1) := dvd_pow_self 2 (Nat.sub_ne_zero_of_lt htwo)
  omega

/-- One left shift moves bit `N-2` of the raw field to bit `N-1`, where the sign is tested (R142). -/
theorem sext_two_mul_toInt_neg_iff (htwo : 2 ≤ n) (hle : n ≤ 64) (raw : Nat) :
    (sext n (2 * raw)).toInt < 0 ↔ raw.testBit (n - 2) = true := by
  have hbit : (2 * raw).testBit (n - 1) = raw.testBit (n - 2) := by
    rw [show n - 1 = (n - 2).succ by omega, Nat.testBit_succ, Nat.mul_div_cancel_left raw Nat.two_pos]
  rw [sext_toInt_neg_iff (Nat.le_of_succ_le htwo) hle, hbit]

end Sext

/-- Settles O34: the signed resolver answers the sign extension of the raw field, which has the range, the residue and
the sign of an `N`-bit two's-complement number. -/
theorem signedImmediateIsTwosComplement : Obligations.SignedImmediateIsTwosComplement := by
  intro n raw hpos hle
  exact ⟨sext n raw, rfl, le_sext_toInt hpos hle, sext_toInt_le hpos hle, sext_toInt_emod hpos hle,
    sext_toInt_neg_iff hpos hle⟩

/-- Settles O35: the shifted resolver answers the sign extension of twice the raw field; being even, it stays one below
the greatest `N`-bit value, and the shift brings bit `N-2` to the sign. -/
theorem implicitLowBitImmediateIsShiftedFirst : Obligations.ImplicitLowBitImmediateIsShiftedFirst := by
  intro n raw htwo hle
  have hpos : 1 ≤ n := Nat.le_of_succ_le htwo
  have hmod : (sext n (2 * raw)).toInt % 2 ^ n = (2 * raw : Int) % 2 ^ n := by
    exact_mod_cast sext_toInt_emod (v := 2 * raw) hpos hle
  exact ⟨sext n (2 * raw), rfl, le_sext_toInt hpos hle, sext_two_mul_toInt_le htwo hle raw,
    sext_two_mul_toInt_even hpos hle raw, hmod, sext_two_mul_toInt_neg_iff htwo hle raw⟩

/-- Settles O33: a field below `2^32` leaves the sign bit of the 64-bit immediate 0, so its signed value is the field. -/
theorem unsignedImmediateIsVerbatim : Obligations.UnsignedImmediateIsVerbatim := by
  intro raw hraw
  have hval : (BitVec.ofNat 64 raw).toNat = raw := by
    rw [BitVec.toNat_ofNat]
    omega
  have hnonneg : 2 * (BitVec.ofNat 64 raw).toNat < 2 ^ 64 := by omega
  refine ⟨BitVec.ofNat 64 raw, rfl, ?_⟩
  rw [BitVec.toInt_eq_toNat_of_lt hnonneg, hval]

end Sys2Proof.ImmediateResolvers
end

section
/-! PROOF. The Instruction Builder and the complete call (spec/44_instruction_builder.md R150, R154). `callResult` is
computed once for presented bytes, where it is R154's function of them, and once for a state that presents a word, where
it is R154's stages 2 to 4; what the builder makes of a matched leaf is then read off the resolved operands. -/

namespace Sys2Proof.InstructionBuilder

open Sys2Proof.Machine Sys2Proof.Laws Sys2Proof.BitfieldExtractor

section CompleteCall

variable {s : State} {bs : List Byte} {w : Word} {t : Node} {l : Leaf}

/-- Stage 1 of R154 on fewer than 4 bytes. -/
theorem decodeCall_of_short (t : Node) (rt : RegTab) (a : Nat) (h : bs.length < 4) :
    decodeCall t rt bs a = failed .insufficientInput 0#3 := by
  match bs with
  | [] | [_] | [_, _] | [_, _, _] => rfl
  | _ :: _ :: _ :: _ :: rest => exact absurd h (by simp)

/-- From 4 bytes on, R154 is its stages 2 to 4 on the word of the first four. -/
theorem decodeCall_of_word (t : Node) (rt : RegTab) (b0 b1 b2 b3 : Byte) (rest : List Byte) (a : Nat) :
    decodeCall t rt (b0 :: b1 :: b2 :: b3 :: rest) a = decodeWordWith t rt (assemble b0 b1 b2 b3) a := rfl

/-- A length below 4 gives InsufficientInput, whatever the span holds (R101). -/
theorem callResult_of_short (h : s.len < 4) : callResult s = some (failed .insufficientInput 0#3) := if_pos h

/-- From a length of 4 on, the result is that of the word fetched. -/
theorem callResult_of_word (h : 4 ≤ s.len) (hw : fetchWord s = some w) :
    callResult s = some (decodeWordWith s.table s.regtab w s.addr) := by
  rw [callResult, if_neg (Nat.not_lt.mpr h), hw, Option.map_some]

/-- Presented byte `k` is byte `k` of the list (R26, R50). -/
theorem bufRead_present (bs : List Byte) (a : Nat) (s : State) (k : Nat) : bufRead (present bs a s) k = bs[k]? :=
  readByte_spanOf bs k

/-- Presented bytes are presented with a truthful length (R343 b). -/
theorem present_truthful (bs : List Byte) (a : Nat) (s : State) : (present bs a s).truthful :=
  (truthful_iff _).2 (present_holds bs a s)

/-- Of presented bytes, a call's result is R154's function: both look at the length first, and both make the word of
the first four bytes. -/
theorem callResult_present (bs : List Byte) (a : Nat) (s : State) :
    callResult (present bs a s) = some (decodeCall s.table s.regtab bs a) := by
  match bs with
  | [] | [_] | [_, _] | [_, _, _] =>
    rw [decodeCall_of_short s.table s.regtab a (by simp)]
    exact callResult_of_short (by simp)
  | b0 :: b1 :: b2 :: b3 :: rest =>
    rw [decodeCall_of_word]
    exact callResult_of_word (by simp) (fetchWord_of_bytes (bufRead_present _ a s 0) (bufRead_present _ a s 1)
      (bufRead_present _ a s 2) (bufRead_present _ a s 3))

/-- A state that presents a word fetches that word (R100). -/
theorem fetchWord_of_presents (hw : s.presents w) : fetchWord s = some w := by
  obtain ⟨-, -, h0, h1, h2, h3⟩ := hw
  rw [fetchWord_of_bytes h0 h1 h2 h3, assemble_bytes]

/-- A configured call on a presented word ends with exactly what stages 2 to 4 of R154 give the word. -/
theorem endsWith_iff_decodeWordWith (hc : s.configured) (hw : s.presents w) (r : Result) :
    endsWith (step s) s r ↔ decodeWordWith s.table s.regtab w s.addr = r := by
  have hfetch := fetchWord_of_presents hw
  obtain ⟨htruthful, hlen, -⟩ := hw
  rw [endsWith_iff_callResult hc htruthful, callResult_of_word hlen hfetch, Option.some_inj]

/-- A matched leaf is resolved and built (R154 stages 3 and 4). -/
theorem decodeWordWith_of_leaf (rt : RegTab) (a : Nat) (hl : walk w t = some l) :
    decodeWordWith t rt w a = builtResult l.opcode (l.operands.map (resolveSpec rt w)) a := by
  rw [decodeWordWith, hl]

end CompleteCall

/-- The builder delivers the operands `ops` exactly when they are the resolved ones, position by position (R150). -/
theorem builtResult_eq_delivered_iff (opcode : Nat) (resolved : List (Option Operand)) (ops : List Operand) (a : Nat) :
    builtResult opcode resolved a = delivered opcode ops a ↔ ops.map some = resolved := by
  rw [eq_comm (a := ops.map some), ← collect_eq_some_iff]
  cases hcollect : collect resolved with
  | none => simp [builtResult_of_none a hcollect]
  | some built => simp [builtResult_of_collect a hcollect]

/-- Settles O6: presented bytes have a truthful length, so the call ends with `callResult`, which is R154's function of
them. -/
theorem stepIsTheCompleteCall : Obligations.StepIsTheCompleteCall := by
  intro s bs a hc
  exact (endsWith_iff_callResult hc (present_truthful bs a s) _).2 (callResult_present bs a s)

/-- Settles O11: on a matched leaf the call ends with the builder's result, which is a record with `ops` exactly when
`ops` are the resolved specifications in the leaf's order. -/
theorem operandsFollowTheLeafInOrder : Obligations.OperandsFollowTheLeafInOrder := by
  intro s w l ops hc hw hl
  calc endsWith (step s) s (delivered l.opcode ops s.addr)
      ↔ decodeWordWith s.table s.regtab w s.addr = delivered l.opcode ops s.addr :=
        endsWith_iff_decodeWordWith hc hw _
    _ ↔ builtResult l.opcode (l.operands.map (resolveSpec s.regtab w)) s.addr = delivered l.opcode ops s.addr := by
        rw [decodeWordWith_of_leaf s.regtab s.addr hl]
    _ ↔ ops.map some = l.operands.map (resolveSpec s.regtab w) := builtResult_eq_delivered_iff _ _ _ _

end Sys2Proof.InstructionBuilder
end

section
/-! PROOF. The walk of REF on a row of the opcode table (spec/30_encoding.md R76, R80, R81; spec/41_decode_engine.md
R110). A walk looks at a word only through the selectors on its path, so two words with the same bits there walk to the
same node; for each row the walk of the pattern itself ends at the row's leaf and looks at bits of the mask only. -/

namespace Sys2Proof.ReferenceWalk

open Sys2Proof.Machine Sys2Proof.Laws

variable {w v : Word}

mutual
/-- The bits of a word that its walk looks at: the selectors of the branches visited, joined. -/
def walkMask (w : Word) : Node → Word
  | .unmatched => 0
  | .leaf _ => 0
  | .branch sel ch => rangeMask sel ||| walkMaskBelow w (slice w sel) ch
/-- The bits looked at below a branch whose selector has the value `v`. -/
def walkMaskBelow (w : Word) (v : Nat) : Children → Word
  | .nil => 0
  | .cons k n rest => if k = v then walkMask w n else walkMaskBelow w v rest
end

/-- The mask of a range has every bit of the range that lies in the word (R76). -/
theorem rangeMask_getLsbD (r : BitRange) {i : Nat} (hi : i < rangeWidth r) (hword : r.lo + i < 32) :
    (rangeMask r).getLsbD (r.lo + i) = true := by
  simp [rangeMask, BitVec.getLsbD_ofNat, Nat.testBit_mul_two_pow, Nat.testBit_two_pow_sub_one, hi, hword]

/-- Words with the same bits under a mask have the same bits under any part of it. -/
theorem and_eq_and_of_part {mask part : Word} (hpart : part &&& mask = part) (h : w &&& mask = v &&& mask) :
    w &&& part = v &&& part := by
  rw [← hpart, BitVec.and_comm part, ← BitVec.and_assoc, ← BitVec.and_assoc, h]

/-- Words with the same bits under two masks joined have the same bits under each. -/
theorem and_eq_and_of_or {a b : Word} (h : w &&& (a ||| b) = v &&& (a ||| b)) :
    w &&& a = v &&& a ∧ w &&& b = v &&& b := by
  have habsorb (x y : Word) : x &&& (x ||| y) = x := by
    ext i
    simpa using Or.inl
  exact ⟨and_eq_and_of_part (habsorb a b) h, and_eq_and_of_part (BitVec.or_comm b a ▸ habsorb b a) h⟩

/-- A slice of a word is decided by the bits under the mask of its range. -/
theorem slice_eq_of_rangeMask {r : BitRange} (h : w &&& rangeMask r = v &&& rangeMask r) : slice w r = slice v r := by
  rw [slice_eq_extractLsb, slice_eq_extractLsb]
  congr 1
  ext i hi
  by_cases hword : r.lo + i < 32
  · have hbit := congrArg (·.getLsbD (r.lo + i)) h
    simpa [rangeMask_getLsbD r hi hword] using hbit
  · simp [BitVec.getLsbD_of_ge _ _ (Nat.le_of_not_lt hword)]

mutual
/-- A word that agrees with `v` on the bits that the walk of `v` looks at walks as `v` does. -/
theorem walk_eq_of_walkMask (t : Node) (h : w &&& walkMask v t = v &&& walkMask v t) : walk w t = walk v t := by
  match t with
  | .unmatched => rfl
  | .leaf _ => rfl
  | .branch sel ch =>
    rw [walkMask] at h
    obtain ⟨hsel, hbelow⟩ := and_eq_and_of_or h
    rw [walk, walk, slice_eq_of_rangeMask hsel]
    exact walkChildren_eq_of_walkMaskBelow (slice v sel) ch hbelow
/-- The same below a branch. -/
theorem walkChildren_eq_of_walkMaskBelow (k : Nat) (ch : Children)
    (h : w &&& walkMaskBelow v k ch = v &&& walkMaskBelow v k ch) : walkChildren w k ch = walkChildren v k ch := by
  match ch with
  | .nil => rfl
  | .cons j n rest =>
    rw [walkMaskBelow] at h
    rw [walkChildren, walkChildren]
    split_ifs at h ⊢
    · exact walk_eq_of_walkMask n h
    · exact walkChildren_eq_of_walkMaskBelow k rest h
end

/-- For each row of the opcode table, REF takes the pattern to the row's leaf and looks at bits of the mask only, all
of them the pattern's own (R80, R81). -/
theorem opcodeRows_walk : ∀ r ∈ opcodeRows,
    walk r.pattern ref = some r.leaf ∧ walkMask r.pattern ref &&& r.mask = walkMask r.pattern ref ∧
      r.pattern &&& r.mask = r.pattern := by
  decide

/-- A word that satisfies a row of the opcode table walks to that row's leaf. -/
theorem walk_ref_of_row {r : FlatRow} (hr : r ∈ opcodeRows) (hw : w &&& r.mask = r.pattern) :
    walk w ref = some r.leaf := by
  obtain ⟨hleaf, hmask, hpattern⟩ := opcodeRows_walk r hr
  rw [← hleaf]
  exact walk_eq_of_walkMask ref (and_eq_and_of_part hmask (hw.trans hpattern.symm))

end Sys2Proof.ReferenceWalk
end

section
/-! PROOF. The operands of REF's formats (spec/30_encoding.md R72, R79): each raw field is the number of the bits that
its format names, and each resolver turns those bits into the operand written with Lean's own bit operations. -/

namespace Sys2Proof.ReferenceOperands

open Sys2Proof.Machine Sys2Proof.Laws

section Fields

variable (w : Word)

theorem field_rdAt : field w rdAt = (rdBits w).toNat := (field_single w _).trans (slice_eq_extractLsb w _)
theorem field_rs1At : field w rs1At = (rs1Bits w).toNat := (field_single w _).trans (slice_eq_extractLsb w _)
theorem field_rs2At : field w rs2At = (rs2Bits w).toNat := (field_single w _).trans (slice_eq_extractLsb w _)
theorem field_shamtAt : field w shamtAt = (rs2Bits w).toNat := (field_single w _).trans (slice_eq_extractLsb w _)
theorem field_immUAt : field w immUAt = (immUBits w).toNat := (field_single w _).trans (slice_eq_extractLsb w _)
theorem field_immIAt : field w immIAt = (immIBits w).toNat := (field_single w _).trans (slice_eq_extractLsb w _)

/-- The two parts of format S, joined. -/
theorem field_immSAt : field w immSAt = (immSBits w).toNat := by
  simp only [immSAt, field, slice, toNat_append_eq, BitVec.extractLsb'_toNat, Nat.shiftRight_eq_div_pow, rawWidth,
    rangeWidth]
  omega

/-- The four parts of format B, joined. -/
theorem field_immBAt : field w immBAt = (immBBits w).toNat := by
  simp only [immBAt, field, slice, toNat_append_eq, BitVec.extractLsb'_toNat, Nat.shiftRight_eq_div_pow, rawWidth,
    rangeWidth]
  omega

/-- The four parts of format J, joined. -/
theorem field_immJAt : field w immJAt = (immJBits w).toNat := by
  simp only [immJAt, field, slice, toNat_append_eq, BitVec.extractLsb'_toNat, Nat.shiftRight_eq_div_pow, rawWidth,
    rangeWidth]
  omega

end Fields

section Resolvers

variable {w : Word} {rs : List BitRange} {m : Nat}

/-- A 5-bit index is an element of the GPR table (R130). -/
theorem resolveSpec_gpr (rt : RegTab) (n : Nat) {i : RegIx} (h : field w rs = i.toNat) :
    resolveSpec rt w ⟨.gpr, n, rs⟩ = some (gprOf rt i) := by
  rw [resolveSpec, h]
  exact resolveGpr_regIx rt i

/-- An unsigned immediate is its field, zero-extended (R140). -/
theorem resolveSpec_uimm (rt : RegTab) (n : Nat) {x : BitVec m} (h : field w rs = x.toNat) :
    resolveSpec rt w ⟨.uimm, n, rs⟩ = some (unsignedImm x) := by
  rw [resolveSpec, h]
  exact congrArg (fun v => some (Operand.imm v)) (BitVec.ofNat_toNat 64 x)

/-- A signed immediate is its field, sign-extended, where the field has all `N` bits (R141). -/
theorem resolveSpec_simm (rt : RegTab) (hm : 1 ≤ m) {x : BitVec m} (h : field w rs = x.toNat) :
    resolveSpec rt w ⟨.simm, m, rs⟩ = some (signedImm x) := by
  have hx : sext m x.toNat = x.signExtend 64 := by
    rw [sext_eq_signExtend m x.toNat hm, BitVec.ofNat_toNat, BitVec.setWidth_eq]
  rw [resolveSpec, h]
  exact congrArg (fun v => some (Operand.imm v)) hx

/-- A shifted immediate is its field with a 0 bit joined below, sign-extended, where `N` counts that bit (R142). -/
theorem resolveSpec_simmLsl1 (rt : RegTab) {x : BitVec m} (h : field w rs = x.toNat) :
    resolveSpec rt w ⟨.simmLsl1, m + 1, rs⟩ = some (evenImm x) := by
  have hdouble : 2 * x.toNat = (x ++ 0#1).toNat := by
    rw [toNat_append_eq, BitVec.toNat_zero]
    omega
  have hx : sext (m + 1) (2 * x.toNat) = (x ++ 0#1).signExtend 64 := by
    rw [sext_eq_signExtend (m + 1) _ (Nat.le_add_left 1 m), hdouble, BitVec.ofNat_toNat, BitVec.setWidth_eq]
  rw [resolveSpec, h]
  exact congrArg (fun v => some (Operand.imm v)) hx

end Resolvers

section Operands

variable (rt : RegTab) (w : Word)

@[simp] theorem resolveSpec_rd : resolveSpec rt w ⟨.gpr, 5, rdAt⟩ = some (gprOf rt (rdBits w)) :=
  resolveSpec_gpr rt 5 (field_rdAt w)
@[simp] theorem resolveSpec_rs1 : resolveSpec rt w ⟨.gpr, 5, rs1At⟩ = some (gprOf rt (rs1Bits w)) :=
  resolveSpec_gpr rt 5 (field_rs1At w)
@[simp] theorem resolveSpec_rs2 : resolveSpec rt w ⟨.gpr, 5, rs2At⟩ = some (gprOf rt (rs2Bits w)) :=
  resolveSpec_gpr rt 5 (field_rs2At w)
@[simp] theorem resolveSpec_shamt : resolveSpec rt w ⟨.uimm, 5, shamtAt⟩ = some (unsignedImm (rs2Bits w)) :=
  resolveSpec_uimm rt 5 (field_shamtAt w)
@[simp] theorem resolveSpec_immU : resolveSpec rt w ⟨.uimm, 20, immUAt⟩ = some (unsignedImm (immUBits w)) :=
  resolveSpec_uimm rt 20 (field_immUAt w)
@[simp] theorem resolveSpec_immI : resolveSpec rt w ⟨.simm, 12, immIAt⟩ = some (signedImm (immIBits w)) :=
  resolveSpec_simm rt (by decide) (field_immIAt w)
@[simp] theorem resolveSpec_immS : resolveSpec rt w ⟨.simm, 12, immSAt⟩ = some (signedImm (immSBits w)) :=
  resolveSpec_simm rt (by decide) (field_immSAt w)
@[simp] theorem resolveSpec_immB : resolveSpec rt w ⟨.simmLsl1, 13, immBAt⟩ = some (evenImm (immBBits w)) :=
  resolveSpec_simmLsl1 rt (field_immBAt w)
@[simp] theorem resolveSpec_immJ : resolveSpec rt w ⟨.simmLsl1, 21, immJAt⟩ = some (evenImm (immJBits w)) :=
  resolveSpec_simmLsl1 rt (field_immJAt w)

end Operands

end Sys2Proof.ReferenceOperands
end

section
/-! PROOF. The integer leaves of REF (spec/45_reference_table_integer.md R200 to R238). A word of a row walks to the
row's leaf, and the builder then delivers the leaf's operands in order; what is left is one lemma for each
operand list that the leaves have. -/

namespace Sys2Proof.IntegerWords

open Sys2Proof.Machine Sys2Proof.Laws Sys2Proof.InstructionBuilder Sys2Proof.ReferenceWalk Sys2Proof.ReferenceOperands

section Rows

variable {mask pattern : Word} {opcode : Nat}

/-- The words of a row deliver the operands `ops` when these are what the row's specifications resolve to, in order
(R150). -/
theorem wordsDeliver_of_row {specs : List OperandSpec} {ops : RegTab → Word → List Operand}
    (hrow : ⟨mask, pattern, ⟨opcode, specs⟩⟩ ∈ opcodeRows)
    (hops : ∀ rt w, (ops rt w).map some = specs.map (resolveSpec rt w)) :
    wordsDeliver mask pattern opcode ops := by
  intro s w ⟨hconfigured, href⟩ hpresents hmatch
  have hwalk : walk w s.table = some ⟨opcode, specs⟩ := by
    rw [href]
    exact walk_ref_of_row hrow hmatch
  exact (operandsFollowTheLeafInOrder s w _ _ hconfigured hpresents hwalk).2 (hops s.regtab w)

/-- `rd` and the 20-bit immediate of format U. -/
theorem wordsDeliver_immU
    (hrow : ⟨mask, pattern, ⟨opcode, [⟨.gpr, 5, rdAt⟩, ⟨.uimm, 20, immUAt⟩]⟩⟩ ∈ opcodeRows) :
    wordsDeliver mask pattern opcode fun rt w => [gprOf rt (rdBits w), unsignedImm (immUBits w)] :=
  wordsDeliver_of_row hrow fun rt w => by simp

/-- `rd` and the jump offset of format J. -/
theorem wordsDeliver_immJ
    (hrow : ⟨mask, pattern, ⟨opcode, [⟨.gpr, 5, rdAt⟩, ⟨.simmLsl1, 21, immJAt⟩]⟩⟩ ∈ opcodeRows) :
    wordsDeliver mask pattern opcode fun rt w => [gprOf rt (rdBits w), evenImm (immJBits w)] :=
  wordsDeliver_of_row hrow fun rt w => by simp

/-- `rs1`, `rs2` and the branch offset of format B. -/
theorem wordsDeliver_immB
    (hrow : ⟨mask, pattern, ⟨opcode, [⟨.gpr, 5, rs1At⟩, ⟨.gpr, 5, rs2At⟩, ⟨.simmLsl1, 13, immBAt⟩]⟩⟩ ∈ opcodeRows) :
    wordsDeliver mask pattern opcode fun rt w =>
      [gprOf rt (rs1Bits w), gprOf rt (rs2Bits w), evenImm (immBBits w)] :=
  wordsDeliver_of_row hrow fun rt w => by simp

/-- `rd`, `rs1` and the 12-bit immediate of format I. -/
theorem wordsDeliver_immI
    (hrow : ⟨mask, pattern, ⟨opcode, [⟨.gpr, 5, rdAt⟩, ⟨.gpr, 5, rs1At⟩, ⟨.simm, 12, immIAt⟩]⟩⟩ ∈ opcodeRows) :
    wordsDeliver mask pattern opcode fun rt w =>
      [gprOf rt (rdBits w), gprOf rt (rs1Bits w), signedImm (immIBits w)] :=
  wordsDeliver_of_row hrow fun rt w => by simp

/-- `rs2`, `rs1` and the 12-bit immediate of format S. -/
theorem wordsDeliver_immS
    (hrow : ⟨mask, pattern, ⟨opcode, [⟨.gpr, 5, rs2At⟩, ⟨.gpr, 5, rs1At⟩, ⟨.simm, 12, immSAt⟩]⟩⟩ ∈ opcodeRows) :
    wordsDeliver mask pattern opcode fun rt w =>
      [gprOf rt (rs2Bits w), gprOf rt (rs1Bits w), signedImm (immSBits w)] :=
  wordsDeliver_of_row hrow fun rt w => by simp

/-- `rd`, `rs1` and the shift amount of format ISH. -/
theorem wordsDeliver_shamt
    (hrow : ⟨mask, pattern, ⟨opcode, [⟨.gpr, 5, rdAt⟩, ⟨.gpr, 5, rs1At⟩, ⟨.uimm, 5, shamtAt⟩]⟩⟩ ∈ opcodeRows) :
    wordsDeliver mask pattern opcode fun rt w =>
      [gprOf rt (rdBits w), gprOf rt (rs1Bits w), unsignedImm (rs2Bits w)] :=
  wordsDeliver_of_row hrow fun rt w => by simp

/-- `rd`, `rs1` and `rs2` of format R. -/
theorem wordsDeliver_regs
    (hrow : ⟨mask, pattern, ⟨opcode, [⟨.gpr, 5, rdAt⟩, ⟨.gpr, 5, rs1At⟩, ⟨.gpr, 5, rs2At⟩]⟩⟩ ∈ opcodeRows) :
    wordsDeliver mask pattern opcode fun rt w =>
      [gprOf rt (rdBits w), gprOf rt (rs1Bits w), gprOf rt (rs2Bits w)] :=
  wordsDeliver_of_row hrow fun rt w => by simp

/-- No operands, as in format SYS. -/
theorem wordsDeliver_none (hrow : ⟨mask, pattern, ⟨opcode, []⟩⟩ ∈ opcodeRows) :
    wordsDeliver mask pattern opcode fun _ _ => [] :=
  wordsDeliver_of_row hrow fun _ _ => rfl

end Rows

/-- Settles O41: LUI and AUIPC are rows of format U, JAL of format J and JALR of format I. -/
theorem upperJumpWordsDeliverTheirRecords : Obligations.UpperJumpWordsDeliverTheirRecords := by
  refine ⟨wordsDeliver_immU ?lui, wordsDeliver_immU ?auipc, wordsDeliver_immJ ?jal, wordsDeliver_immI ?jalr⟩ <;> decide

/-- Settles O42: the six branches are rows of format B. -/
theorem branchWordsDeliverTheirRecords : Obligations.BranchWordsDeliverTheirRecords := by
  refine ⟨wordsDeliver_immB ?beq, wordsDeliver_immB ?bne, wordsDeliver_immB ?blt, wordsDeliver_immB ?bge,
    wordsDeliver_immB ?bltu, wordsDeliver_immB ?bgeu⟩ <;> decide

/-- Settles O43: the five loads are rows of format I. -/
theorem loadWordsDeliverTheirRecords : Obligations.LoadWordsDeliverTheirRecords := by
  refine ⟨wordsDeliver_immI ?lb, wordsDeliver_immI ?lh, wordsDeliver_immI ?lw, wordsDeliver_immI ?lbu,
    wordsDeliver_immI ?lhu⟩ <;> decide

/-- Settles O44: the three stores are rows of format S. -/
theorem storeWordsDeliverTheirRecords : Obligations.StoreWordsDeliverTheirRecords := by
  refine ⟨wordsDeliver_immS ?sb, wordsDeliver_immS ?sh, wordsDeliver_immS ?sw⟩ <;> decide

/-- Settles O45: the six register-immediate leaves are rows of format I. -/
theorem regImmWordsDeliverTheirRecords : Obligations.RegImmWordsDeliverTheirRecords := by
  refine ⟨wordsDeliver_immI ?addi, wordsDeliver_immI ?slti, wordsDeliver_immI ?sltiu, wordsDeliver_immI ?xori,
    wordsDeliver_immI ?ori, wordsDeliver_immI ?andi⟩ <;> decide

/-- Settles O46: the three shift-immediate leaves are rows of format ISH. -/
theorem shiftImmWordsDeliverTheirRecords : Obligations.ShiftImmWordsDeliverTheirRecords := by
  refine ⟨wordsDeliver_shamt ?slli, wordsDeliver_shamt ?srli, wordsDeliver_shamt ?srai⟩ <;> decide

/-- Settles O47: the ten register-register leaves are rows of format R. -/
theorem regRegWordsDeliverTheirRecords : Obligations.RegRegWordsDeliverTheirRecords := by
  refine ⟨wordsDeliver_regs ?add, wordsDeliver_regs ?sub, wordsDeliver_regs ?sll, wordsDeliver_regs ?slt,
    wordsDeliver_regs ?sltu, wordsDeliver_regs ?xor, wordsDeliver_regs ?srl, wordsDeliver_regs ?sra,
    wordsDeliver_regs ?or, wordsDeliver_regs ?and⟩ <;> decide

/-- Settles O48: ECALL and EBREAK are rows with every bit fixed and no operand. -/
theorem systemWordsDeliverTheirRecords : Obligations.SystemWordsDeliverTheirRecords := by
  refine ⟨wordsDeliver_none ?ecall, wordsDeliver_none ?ebreak⟩ <;> decide

end Sys2Proof.IntegerWords
end

section
/-! PROOF. The float leaves of REF (spec/46_reference_table_float.md R250 to R257). They have the operand lists of the
integer formats with other register classes, so the lookup of a 5-bit index is said once for every class, and each
operand list once for the classes that its leaves give to it. -/

namespace Sys2Proof.FloatWords

open Sys2Proof.Machine Sys2Proof.Laws Sys2Proof.ReferenceOperands Sys2Proof.IntegerWords

/-- The tag of the operands that a register class resolves (R74). -/
def classKind : RegClass → OperandKind
  | .gpr => .gpr
  | .fpr32 => .fpr32
  | .fpr64 => .fpr64

/-- The register operand that a 5-bit index names in a class. -/
def classOperand (c : RegClass) (rt : RegTab) (i : RegIx) : Operand := .reg ((classTable rt c)[i.toNat]'i.isLt)

section Operands

variable (c : RegClass) (rt : RegTab) (w : Word)

/-- The resolver that a class's tag names is the lookup in that class's table (R130 to R132). -/
theorem resolveKind_classKind (n raw : Nat) : resolveKind rt (classKind c) n raw = lookupReg rt c raw := by
  cases c <;> rfl

/-- A 5-bit index is an element of its class's table. -/
theorem resolveSpec_classKind (n : Nat) {rs : List BitRange} {i : RegIx} (h : field w rs = i.toNat) :
    resolveSpec rt w ⟨classKind c, n, rs⟩ = some (classOperand c rt i) := by
  rw [resolveSpec, resolveKind_classKind, h]
  exact lookupReg_regIx rt c i

@[simp] theorem resolveSpec_class_rd :
    resolveSpec rt w ⟨classKind c, 5, rdAt⟩ = some (classOperand c rt (rdBits w)) :=
  resolveSpec_classKind c rt w 5 (field_rdAt w)
@[simp] theorem resolveSpec_class_rs1 :
    resolveSpec rt w ⟨classKind c, 5, rs1At⟩ = some (classOperand c rt (rs1Bits w)) :=
  resolveSpec_classKind c rt w 5 (field_rs1At w)
@[simp] theorem resolveSpec_class_rs2 :
    resolveSpec rt w ⟨classKind c, 5, rs2At⟩ = some (classOperand c rt (rs2Bits w)) :=
  resolveSpec_classKind c rt w 5 (field_rs2At w)

end Operands

section Rows

variable {mask pattern : Word} {opcode : Nat}

/-- Format I with `rd` of any class: the float loads. -/
theorem wordsDeliver_class_immI (c : RegClass)
    (hrow : ⟨mask, pattern, ⟨opcode, [⟨classKind c, 5, rdAt⟩, ⟨.gpr, 5, rs1At⟩, ⟨.simm, 12, immIAt⟩]⟩⟩ ∈ opcodeRows) :
    wordsDeliver mask pattern opcode fun rt w =>
      [classOperand c rt (rdBits w), gprOf rt (rs1Bits w), signedImm (immIBits w)] :=
  wordsDeliver_of_row hrow fun rt w => by simp

/-- Format S with `rs2` of any class: the float stores. -/
theorem wordsDeliver_class_immS (c : RegClass)
    (hrow : ⟨mask, pattern, ⟨opcode, [⟨classKind c, 5, rs2At⟩, ⟨.gpr, 5, rs1At⟩, ⟨.simm, 12, immSAt⟩]⟩⟩ ∈ opcodeRows) :
    wordsDeliver mask pattern opcode fun rt w =>
      [classOperand c rt (rs2Bits w), gprOf rt (rs1Bits w), signedImm (immSBits w)] :=
  wordsDeliver_of_row hrow fun rt w => by simp

/-- Format R with all three registers of one class: the sign injections. -/
theorem wordsDeliver_class_regs (c : RegClass)
    (hrow : ⟨mask, pattern, ⟨opcode, [⟨classKind c, 5, rdAt⟩, ⟨classKind c, 5, rs1At⟩, ⟨classKind c, 5, rs2At⟩]⟩⟩ ∈
      opcodeRows) :
    wordsDeliver mask pattern opcode fun rt w =>
      [classOperand c rt (rdBits w), classOperand c rt (rs1Bits w), classOperand c rt (rs2Bits w)] :=
  wordsDeliver_of_row hrow fun rt w => by simp

/-- `rd` of one class and `rs1` of another: the moves between register files. -/
theorem wordsDeliver_class_move (c d : RegClass)
    (hrow : ⟨mask, pattern, ⟨opcode, [⟨classKind c, 5, rdAt⟩, ⟨classKind d, 5, rs1At⟩]⟩⟩ ∈ opcodeRows) :
    wordsDeliver mask pattern opcode fun rt w => [classOperand c rt (rdBits w), classOperand d rt (rs1Bits w)] :=
  wordsDeliver_of_row hrow fun rt w => by simp

end Rows

/-- Settles O49: FLW and FLD are rows of format I, FSW and FSD of format S, with the transferred register in FPR32 or
FPR64. -/
theorem floatMemWordsDeliverTheirRecords : Obligations.FloatMemWordsDeliverTheirRecords := by
  refine ⟨wordsDeliver_class_immI .fpr32 ?flw, wordsDeliver_class_immI .fpr64 ?fld,
    wordsDeliver_class_immS .fpr32 ?fsw, wordsDeliver_class_immS .fpr64 ?fsd⟩ <;> decide

/-- Settles O50: FSGNJ_S and FSGNJ_D are rows of format R within one float class, and the moves are rows between GPR
and FPR32, one for each direction. -/
theorem floatRegWordsDeliverTheirRecords : Obligations.FloatRegWordsDeliverTheirRecords := by
  refine ⟨wordsDeliver_class_regs .fpr32 ?fsgnjS, wordsDeliver_class_regs .fpr64 ?fsgnjD,
    wordsDeliver_class_move .gpr .fpr32 ?fmvXW, wordsDeliver_class_move .fpr32 .gpr ?fmvWX⟩ <;> decide

end Sys2Proof.FloatWords
end

section
/-! PROOF. The failure of a matched leaf (spec/60_exceptions.md R303). Only a register resolver rejects a raw field, and
one rejected operand is enough for the builder to deliver no record; so a leaf fails exactly on a bad index. -/

namespace Sys2Proof.Exceptions

open Sys2Proof.Machine Sys2Proof.Laws Sys2Proof.InstructionBuilder

/-- The bounded lookup rejects exactly the indices from the element count on (R133). -/
theorem lookupReg_eq_none_iff (rt : RegTab) (c : RegClass) (raw : Nat) : lookupReg rt c raw = none ↔ 32 ≤ raw := by
  refine ⟨fun hnone => Nat.le_of_not_lt fun hlt => ?_, lookupReg_of_ge rt c⟩
  rw [lookupReg_of_lt rt c hlt] at hnone
  exact Option.some_ne_none _ hnone

/-- A specification is rejected exactly when it names a register class and its raw field is 32 or more: the three
register resolvers are the bounded lookup, and no immediate resolver rejects (R133, R143). -/
theorem resolveSpec_eq_none_iff (rt : RegTab) (w : Word) (sp : OperandSpec) :
    resolveSpec rt w sp = none ↔ isRegister sp = true ∧ 32 ≤ field w sp.ranges := by
  obtain ⟨kind, n, rs⟩ := sp
  cases kind with
  | gpr | fpr32 | fpr64 => exact (lookupReg_eq_none_iff rt _ _).trans (and_iff_right rfl).symm
  | uimm | simm | simmLsl1 => exact iff_of_false (Option.some_ne_none _) fun hreg => Bool.false_ne_true hreg.1

/-- The operands of a leaf cannot all be resolved exactly when one has a bad index (R155, R303). -/
theorem collect_resolveSpec_eq_none_iff (rt : RegTab) (w : Word) (l : Leaf) :
    collect (l.operands.map (resolveSpec rt w)) = none ↔ badIndex l w := by
  simp only [collect_eq_none_iff, List.mem_map, resolveSpec_eq_none_iff, badIndex]

/-- Settles O10: on a bad index the builder has no operand list and ends the call with InvalidOperand; otherwise it has
one, which is the leaf's resolved specifications in order and so as long as they are. -/
theorem matchedLeafFailsExactlyOnABadIndex : Obligations.MatchedLeafFailsExactlyOnABadIndex := by
  intro s w l hc hw hl
  constructor
  · intro hbad
    have hnone := (collect_resolveSpec_eq_none_iff s.regtab w l).2 hbad
    refine (endsWith_iff_decodeWordWith hc hw _).2 ?_
    rw [decodeWordWith_of_leaf s.regtab s.addr hl, builtResult_of_none s.addr hnone]
  · intro hgood
    obtain ⟨ops, hops⟩ := Option.ne_none_iff_exists'.1 (mt (collect_resolveSpec_eq_none_iff s.regtab w l).1 hgood)
    have hresolved := (collect_eq_some_iff _ ops).1 hops
    have hlength : ops.length = l.operands.length := by simpa using (congrArg List.length hresolved).symm
    exact ⟨ops, hlength, (operandsFollowTheLeafInOrder s w l ops hc hw hl).2 hresolved.symm⟩

end Sys2Proof.Exceptions
end

section
/-! PROOF. Trees as data (spec/30_encoding.md R73). The pairs of a branch are a list, and what the functions on tables
do with the children of a branch is said once over that list; every later induction is then over nodes alone. -/

namespace Sys2Proof.Trees

open Sys2Proof.Machine

variable {p : Params} {w : Word} {l : Leaf}

mutual
/-- What holds of the unmatched terminal and of every leaf, and of a branch when it holds of its children, holds of
every tree. -/
theorem node_induction {P : Node → Prop} (unmatched : P .unmatched) (leaf : ∀ l, P (.leaf l))
    (branch : ∀ sel ch, (∀ c ∈ childPairs ch, P c.2) → P (.branch sel ch)) (t : Node) : P t := by
  match t with
  | .unmatched => exact unmatched
  | .leaf l => exact leaf l
  | .branch sel ch => exact branch sel ch (children_induction unmatched leaf branch ch)
/-- The same for each child of a branch. -/
theorem children_induction {P : Node → Prop} (unmatched : P .unmatched) (leaf : ∀ l, P (.leaf l))
    (branch : ∀ sel ch, (∀ c ∈ childPairs ch, P c.2) → P (.branch sel ch)) (ch : Children) :
    ∀ c ∈ childPairs ch, P c.2 := by
  match ch with
  | .nil => simp [childPairs]
  | .cons v n rest =>
    exact List.forall_mem_cons.2
      ⟨node_induction unmatched leaf branch n, children_induction unmatched leaf branch rest⟩
end

theorem childValues_eq (ch : Children) : childValues ch = (childPairs ch).map (·.1) := by
  match ch with
  | .nil => rfl
  | .cons v n rest => rw [childValues, childPairs, List.map_cons, childValues_eq rest]

theorem childPairs_childrenOf (rows : List (Nat × Node)) : childPairs (childrenOf rows) = rows := by
  induction rows with
  | nil => rfl
  | cons c rows ih => rw [childrenOf, childPairs, ih]

theorem childrenOk_iff (above : List BitRange) (ch : Children) :
    childrenOk p above ch = true ↔ ∀ c ∈ childPairs ch, nodeOk p above c.2 = true := by
  match ch with
  | .nil => simp [childrenOk, childPairs]
  | .cons v n rest => rw [childrenOk, Bool.and_eq_true, childrenOk_iff above rest, childPairs, List.forall_mem_cons]

/-- A walk that ends at a leaf goes through a child at the selector's value. -/
theorem exists_child_of_walkChildren {k : Nat} {ch : Children} (h : walkChildren w k ch = some l) :
    ∃ c ∈ childPairs ch, c.1 = k ∧ walk w c.2 = some l := by
  match ch with
  | .nil => cases h
  | .cons v n rest =>
    rw [walkChildren] at h
    rw [childPairs, List.exists_mem_cons_iff]
    split_ifs at h with hv
    · exact .inl ⟨hv, h⟩
    · exact .inr (exists_child_of_walkChildren h)

/-- Where no value is listed twice, the child listed at the selector's value is the one walked. -/
theorem walkChildren_of_mem {ch : Children} (hnodup : ((childPairs ch).map (·.1)).Nodup) {c : Nat × Node}
    (hc : c ∈ childPairs ch) : walkChildren w c.1 ch = walk w c.2 := by
  match ch with
  | .nil => cases hc
  | .cons v n rest =>
    rw [childPairs, List.map_cons, List.nodup_cons] at hnodup
    obtain ⟨hnew, hrest⟩ := hnodup
    rw [walkChildren]
    rcases List.mem_cons.1 hc with rfl | hmem
    · exact if_pos rfl
    · have hvalue : c.1 ∈ (childPairs rest).map (·.1) := List.mem_map_of_mem hmem
      have hother : v ≠ c.1 := fun hv => hnew (hv ▸ hvalue)
      rw [if_neg hother, walkChildren_of_mem hrest hmem]

/-- A walk through a branch ends at a leaf exactly when it does so through the child listed at the selector's value. -/
theorem walk_branch_eq_some_iff {sel : BitRange} {ch : Children} (hnodup : ((childPairs ch).map (·.1)).Nodup) :
    walk w (.branch sel ch) = some l ↔ ∃ c ∈ childPairs ch, c.1 = slice w sel ∧ walk w c.2 = some l := by
  rw [walk]
  refine ⟨exists_child_of_walkChildren, ?_⟩
  rintro ⟨c, hc, hvalue, hwalk⟩
  rw [← hvalue, walkChildren_of_mem hnodup hc, hwalk]

/-- Below a branch the walk visits what it visits below one child, or nothing. -/
theorem branchesBelow_cases (w : Word) (k : Nat) (ch : Children) :
    branchesBelow w k ch = 0 ∨ ∃ c ∈ childPairs ch, branchesBelow w k ch = branchesVisited w c.2 := by
  match ch with
  | .nil => exact .inl rfl
  | .cons v n rest =>
    rw [branchesBelow, childPairs, List.exists_mem_cons_iff]
    split_ifs
    · exact .inr (.inl rfl)
    · exact (branchesBelow_cases w k rest).imp_right .inr

/-- A flat row below a branch is a flat row below one of its children. -/
theorem flatRowsOfChildren_eq (sel : BitRange) (mask pattern : Word) (ch : Children) :
    flatRowsOfChildren sel mask pattern ch =
      (childPairs ch).flatMap fun c =>
        flatRowsFrom (mask ||| rangeMask sel) (pattern ||| rangePattern sel c.1) c.2 := by
  match ch with
  | .nil => rfl
  | .cons v n rest =>
    rw [flatRowsOfChildren, childPairs, List.flatMap_cons, flatRowsOfChildren_eq sel mask pattern rest]

end Sys2Proof.Trees
end

section
/-! PROOF. Well-formed tables (spec/30_encoding.md R75). Each check of the model is put beside the words of R75 that it
tests; the check of a tree is then that every node it reaches passes, and what a walk reaches is among these. -/

namespace Sys2Proof.WellFormedTables

open Sys2Proof.Machine Sys2Proof.Laws Sys2Proof.Trees

section Checks

variable {p : Params} {rs above : List BitRange}

theorem rangeOk_iff (r : BitRange) : rangeOk r = true ↔ ¬ outsideWord r := by
  simp only [rangeOk, outsideWord, Bool.and_eq_true, decide_eq_true_eq]
  omega

/-- Of ranges in the word, the raw width counts the bits. -/
theorem rawWidth_eq_bitCount (h : ∀ r ∈ rs, ¬ outsideWord r) : rawWidth rs = bitCount rs := by
  induction rs with
  | nil => rfl
  | cons r rs ih =>
    obtain ⟨hr, hrs⟩ := List.forall_mem_cons.1 h
    have hhead : rangeWidth r = r.hi + 1 - r.lo := by
      rw [rangeWidth]
      omega
    rw [rawWidth, ih hrs, hhead, bitCount, bitCount, List.map_cons, List.sum_cons]

/-- WF7, in the words of R75. -/
theorem wf7Ranges_iff (sp : OperandSpec) :
    wf7Ranges sp = true ↔
      (∀ r ∈ sp.ranges, ¬ outsideWord r) ∧ bitCount sp.ranges ≠ 0 ∧ bitCount sp.ranges ≤ 32 := by
  simp only [wf7Ranges, Bool.and_eq_true, List.all_eq_true, decide_eq_true_eq, rangeOk_iff, and_assoc]
  refine and_congr_right fun hranges => ?_
  rw [rawWidth_eq_bitCount hranges, Nat.one_le_iff_ne_zero]

/-- An operand specification passes exactly when it breaks none of WF7 to WF10. -/
theorem specOk_iff (sp : OperandSpec) : specOk sp = true ↔ ¬ badSpec sp := by
  by_cases hranges : ∀ r ∈ sp.ranges, ¬ outsideWord r
  · have hnone : ¬ ∃ r ∈ sp.ranges, outsideWord r := fun ⟨r, hr, hout⟩ => hranges r hr hout
    rw [specOk, Bool.and_eq_true, wf7Ranges_iff, and_iff_right hranges, badSpec, or_iff_right hnone, wf8to10Width,
      rawWidth_eq_bitCount hranges]
    cases sp.kind <;> simp <;> omega
  · refine iff_of_false (fun hok => ?_) (not_not_intro (.inl ?_))
    · rw [specOk, Bool.and_eq_true, wf7Ranges_iff] at hok
      exact hranges hok.1.1
    · simpa only [not_forall, not_not, exists_prop] using hranges

/-- What a leaf that breaks none of these conditions is like. -/
theorem not_badLeaf_iff (l : Leaf) : ¬ badLeaf p l ↔
    l.opcode ≠ 0 ∧ l.opcode < 2 ^ p.opcW ∧ l.operands.length ≤ p.maxOperands ∧ ∀ sp ∈ l.operands, ¬ badSpec sp := by
  simp only [badLeaf, not_or, not_exists, not_and, Nat.not_le, Nat.not_lt, ne_eq]

/-- A leaf passes exactly when it breaks none of WF5 to WF10 nor the width of its identifier. -/
theorem leafOk_iff (l : Leaf) : leafOk p l = true ↔ ¬ badLeaf p l := by
  simp only [leafOk, wf5Opcode, opcodeFits, wf6Count, Bool.and_eq_true, decide_eq_true_eq, List.all_eq_true,
    specOk_iff, not_badLeaf_iff, and_assoc]

/-- WF4 for two ranges in the word: no bit is in both. -/
theorem rangesDisjoint_iff {a b : BitRange} (ha : ¬ outsideWord a) (hb : ¬ outsideWord b) :
    rangesDisjoint a b = true ↔ ¬ shareBit b a := by
  simp only [rangesDisjoint, Bool.or_eq_true, decide_eq_true_eq, shareBit, not_exists]
  constructor
  · intro h i
    omega
  · intro h
    have hlow := h a.lo
    have hhigh := h b.lo
    omega

/-- WF2, in the words of R75. -/
theorem wf2Values_iff (sel : BitRange) (vs : List Nat) :
    wf2Values sel vs = true ↔ vs.Nodup ∧ ∀ v ∈ vs, v < 2 ^ rangeWidth sel := by
  simp only [wf2Values, Bool.and_eq_true, List.all_eq_true, decide_eq_true_eq]

/-- What a branch that breaks none of WF1 to WF4 is like. -/
theorem not_badBranch_iff (above : List BitRange) (sel : BitRange) (ch : Children) :
    ¬ badBranch p above sel ch ↔ ¬ outsideWord sel ∧ ((childPairs ch).map (·.1)).Nodup ∧
      (∀ v ∈ (childPairs ch).map (·.1), v < 2 ^ rangeWidth sel) ∧ above.length < p.depthMax ∧
      ∀ q ∈ above, ¬ shareBit q sel := by
  simp only [badBranch, not_or, not_not, not_exists, not_and, Nat.not_le, Nat.not_lt, Nat.succ_le_iff, rangeWidth]

/-- A branch itself, its children aside, passes exactly when it breaks none of WF1 to WF4. -/
theorem branchOk_iff (habove : ∀ q ∈ above, ¬ outsideWord q) (sel : BitRange) (ch : Children) :
    (wf1Selector sel && wf2Values sel (childValues ch) && wf3Depth p above && wf4Disjoint above sel) = true ↔
      ¬ badBranch p above sel ch := by
  have hdisjoint (hsel : ¬ outsideWord sel) : wf4Disjoint above sel = true ↔ ∀ q ∈ above, ¬ shareBit q sel := by
    rw [wf4Disjoint, List.all_eq_true]
    exact forall₂_congr fun q hq => rangesDisjoint_iff hsel (habove q hq)
  rw [Bool.and_eq_true, Bool.and_eq_true, Bool.and_eq_true, wf1Selector, rangeOk_iff, wf2Values_iff, childValues_eq,
    wf3Depth, decide_eq_true_eq, not_badBranch_iff, and_assoc, and_assoc, and_assoc]
  refine and_congr_right fun hsel => ?_
  rw [hdisjoint hsel]

/-- What a branch breaks depends on the selectors above it only as a set and by their number. -/
theorem badBranch_reverse (path : List BitRange) (sel : BitRange) (ch : Children) :
    badBranch p path.reverse sel ch ↔ badBranch p path sel ch := by
  simp only [badBranch, List.length_reverse, List.mem_reverse]

end Checks

section Reached

variable {p : Params} {t : Node} {w : Word} {l : Leaf}

/-- No node that the tree `t` reaches breaks a condition, where `above` lists the selectors above `t`, the nearest
first. -/
def ReachedOk (p : Params) (above : List BitRange) (t : Node) : Prop :=
  (∀ path l, Reaches t path (.leaf l) → ¬ badLeaf p l) ∧
  ∀ path sel ch, Reaches t path (.branch sel ch) → ¬ badBranch p (path.reverse ++ above) sel ch

theorem reachedOk_unmatched (above : List BitRange) : ReachedOk p above .unmatched :=
  ⟨fun _ _ hreach => (nomatch hreach), fun _ _ _ hreach => (nomatch hreach)⟩

theorem reachedOk_leaf_iff (above : List BitRange) : ReachedOk p above (.leaf l) ↔ ¬ badLeaf p l := by
  constructor
  · exact fun h => h.1 [] l (.here _)
  · intro h
    refine ⟨?_, ?_⟩
    · rintro path m ⟨⟩
      exact h
    · rintro path sel ch ⟨⟩

/-- A branch reaches itself and what its children reach. -/
theorem reachedOk_branch_iff (above : List BitRange) (sel : BitRange) (ch : Children) :
    ReachedOk p above (.branch sel ch) ↔
      ¬ badBranch p above sel ch ∧ ∀ c ∈ childPairs ch, ReachedOk p (sel :: above) c.2 := by
  constructor
  · rintro ⟨hleaves, hbranches⟩
    refine ⟨hbranches [] sel ch (.here _), fun c hc => ⟨fun path l hreach => hleaves _ l (.through hc hreach), ?_⟩⟩
    intro path sel' ch' hreach
    simpa using hbranches _ sel' ch' (.through hc hreach)
  · rintro ⟨hhere, hchildren⟩
    constructor
    · rintro path l (_ | ⟨hc, hreach⟩)
      exact (hchildren _ hc).1 _ l hreach
    · rintro path sel' ch' (_ | ⟨hc, hreach⟩)
      · exact hhere
      · simpa using (hchildren _ hc).2 _ sel' ch' hreach

/-- The check of a tree is that everything it reaches passes. -/
theorem nodeOk_iff (t : Node) (above : List BitRange) (habove : ∀ q ∈ above, ¬ outsideWord q) :
    nodeOk p above t = true ↔ ReachedOk p above t := by
  induction t using node_induction generalizing above with
  | unmatched => exact iff_of_true rfl (reachedOk_unmatched above)
  | leaf l => rw [nodeOk, leafOk_iff, reachedOk_leaf_iff]
  | branch sel ch ih =>
    rw [nodeOk, Bool.and_eq_true, branchOk_iff habove, childrenOk_iff, reachedOk_branch_iff]
    refine and_congr_right fun hgood => forall₂_congr fun c hc => ih c hc (sel :: above) ?_
    exact List.forall_mem_cons.2 ⟨fun hout => hgood (.inl hout), habove⟩

theorem tableOk_iff (p : Params) (t : Node) : tableOk p t = true ↔ ReachedOk p [] t :=
  nodeOk_iff t [] (by simp)

/-- `illFormed` is that some node reached fails. -/
theorem illFormed_iff (p : Params) (t : Node) : illFormed p t ↔ ¬ ReachedOk p [] t := by
  simp only [illFormed, ReachedOk, List.append_nil, badBranch_reverse, not_and_or, not_forall, not_not, exists_prop]

/-- A walk that ends at a leaf follows a path to it (R110). -/
theorem reaches_of_walk (hwalk : walk w t = some l) : ∃ path, Reaches t path (.leaf l) := by
  induction t using node_induction with
  | unmatched => cases hwalk
  | leaf _ =>
    cases hwalk
    exact ⟨[], .here _⟩
  | branch sel ch ih =>
    obtain ⟨c, hc, -, hchild⟩ := exists_child_of_walkChildren hwalk
    obtain ⟨path, hreach⟩ := ih c hc hchild
    exact ⟨sel :: path, .through hc hreach⟩

/-- A leaf that a word reaches in a well-formed table meets WF5 to WF10. -/
theorem not_badLeaf_of_walk (hok : tableOk p t = true) (hwalk : walk w t = some l) : ¬ badLeaf p l := by
  obtain ⟨path, hreach⟩ := reaches_of_walk hwalk
  exact ((tableOk_iff p t).1 hok).1 path l hreach

end Reached

/-- Settles O3: a table fails its check exactly when a node that it reaches breaks one of WF1 to WF10, and a call under
such a table is refused once FEATURES and the ports are found right. -/
theorem illFormedTablesAreRefused : Obligations.IllFormedTablesAreRefused := by
  have hcheck (p : Params) (t : Node) : illFormed p t ↔ tableOk p t = false := by
    rw [illFormed_iff, ← tableOk_iff, Bool.not_eq_true]
  exact ⟨hcheck, fun s hfeatures hports hill => call_of_table hfeatures hports ((hcheck _ _).1 hill)⟩

end Sys2Proof.WellFormedTables
end

section
/-! PROOF. What a call can do (spec/60_exceptions.md R304, R309; spec/10_state.md R20): it is refused for one of four
reasons, or it ends with a result and leaves everything else alone; and the result is one of the four kinds of R300,
each of its values within its port (R27). -/

namespace Sys2Proof.CallOutcomes

open Sys2Proof.Machine Sys2Proof.Laws Sys2Proof.BitfieldExtractor Sys2Proof.InstructionBuilder Sys2Proof.Exceptions
  Sys2Proof.WellFormedTables

section Results

variable {s : State} {p : Params} {rt : RegTab} {t : Node} {w : Word} {a : Nat}

/-- A failure's result has its consumed size and no record. -/
theorem resultOk_failureResult (p : Params) (st : Status) (h : st ≠ .success) : resultOk p (failureResult st) := by
  cases st with
  | success => exact absurd rfl h
  | insufficientInput | unrecognizedEncoding | invalidOperand => simp [resultOk, failureResult, consumedFor]

/-- A successful result is one a call can end with when its record has values of their ports' widths. -/
theorem resultOk_delivered {opcode : Nat} {ops : List Operand} (hzero : opcode ≠ 0) (hopcode : opcode < 2 ^ p.opcW)
    (hcount : ops.length ≤ p.maxOperands) (hids : ∀ id, .reg id ∈ ops → id < 2 ^ p.regW) (haddr : a < 2 ^ p.addrW) :
    resultOk p (delivered opcode ops a) := by
  refine ⟨by simp, by simp, by simp, ?_⟩
  rintro _ ⟨⟩
  exact ⟨hzero, hopcode, hcount, hids, rfl, haddr⟩

/-- A looked-up identifier is an entry of the class's table, so it has `REG_W` bits (R24). -/
theorem lookupReg_fits (hfits : regtabFits p rt = true) {c : RegClass} {raw id : Nat}
    (h : lookupReg rt c raw = some (.reg id)) : id < 2 ^ p.regW := by
  rcases Nat.lt_or_ge raw 32 with hlt | hge
  · rw [lookupReg_of_lt rt c hlt] at h
    cases h
    exact (regtabFits_iff p rt).1 hfits c raw hlt
  · rw [lookupReg_of_ge rt c hge] at h
    cases h

/-- Only the register resolvers answer a register, and it has `REG_W` bits. -/
theorem resolveSpec_fits (hfits : regtabFits p rt = true) {sp : OperandSpec} {id : Nat}
    (h : resolveSpec rt w sp = some (.reg id)) : id < 2 ^ p.regW := by
  obtain ⟨kind, n, rs⟩ := sp
  cases kind with
  | gpr | fpr32 | fpr64 => exact lookupReg_fits hfits h
  | uimm | simm | simmLsl1 => cases h

/-- All that stages 2 to 4 of R154 can answer: no leaf, a leaf with a bad index, or a leaf whose operands all
resolve. -/
theorem decodeWordWith_cases (t : Node) (rt : RegTab) (w : Word) (a : Nat) :
    (walk w t = none ∧ decodeWordWith t rt w a = failed .unrecognizedEncoding 4#3) ∨
    ∃ l, walk w t = some l ∧
      ((badIndex l w ∧ decodeWordWith t rt w a = failed .invalidOperand 4#3) ∨
        ∃ ops, ops.map some = l.operands.map (resolveSpec rt w) ∧
          decodeWordWith t rt w a = delivered l.opcode ops a) := by
  cases hwalk : walk w t with
  | none =>
    refine .inl ⟨rfl, ?_⟩
    rw [decodeWordWith, hwalk]
    rfl
  | some l =>
    refine .inr ⟨l, rfl, ?_⟩
    rw [decodeWordWith_of_leaf rt a hwalk]
    cases hcollect : collect (l.operands.map (resolveSpec rt w)) with
    | none => exact .inl ⟨(collect_resolveSpec_eq_none_iff rt w l).1 hcollect, builtResult_of_none a hcollect⟩
    | some ops => exact .inr ⟨ops, ((collect_eq_some_iff _ ops).1 hcollect).symm, builtResult_of_collect a hcollect⟩

/-- Stages 2 to 4 of R154 under a well-formed table give a result that a call can end with. -/
theorem resultOk_decodeWordWith (hfits : regtabFits p rt = true) (haddr : a < 2 ^ p.addrW)
    (htable : tableOk p t = true) (w : Word) : resultOk p (decodeWordWith t rt w a) := by
  obtain ⟨-, hr⟩ | ⟨l, hwalk, ⟨-, hr⟩ | ⟨ops, hops, hr⟩⟩ := decodeWordWith_cases t rt w a <;> rw [hr]
  · exact resultOk_failureResult p .unrecognizedEncoding (by simp)
  · exact resultOk_failureResult p .invalidOperand (by simp)
  · obtain ⟨hzero, hopcode, hcount, -⟩ := (not_badLeaf_iff l).1 (not_badLeaf_of_walk htable hwalk)
    have hlength : ops.length = l.operands.length := by simpa using congrArg List.length hops
    refine resultOk_delivered hzero hopcode (hlength ▸ hcount) (fun id hid => ?_) haddr
    have hmem : some (Operand.reg id) ∈ l.operands.map (resolveSpec rt w) := hops ▸ List.mem_map_of_mem hid
    obtain ⟨sp, -, hsp⟩ := List.mem_map.1 hmem
    exact resolveSpec_fits hfits hsp

/-- The result of a configured call is one of the four kinds of R300. -/
theorem resultOk_callResult (hc : s.configured) {r : Result} (hr : callResult s = some r) : resultOk s.params r := by
  obtain ⟨-, hports, htable⟩ := hc
  simp only [portsFit, Bool.and_eq_true, decide_eq_true_eq] at hports
  obtain ⟨⟨-, haddr⟩, hfits⟩ := hports
  rw [callResult] at hr
  split_ifs at hr with hlen
  · cases hr
    exact resultOk_failureResult s.params .insufficientInput (by simp)
  · obtain ⟨w, -, rfl⟩ := Option.map_eq_some_iff.1 hr
    exact resultOk_decodeWordWith hfits haddr htable w

/-- A step that ends drives a result of one of the four kinds. -/
theorem resultOk_of_endsWith {r : Result} (h : endsWith (step s) s r) : resultOk s.params r := by
  obtain ⟨hc, -, q, hq, hsame⟩ := (step_eq_next_iff _ _).1 h
  cases hsame
  exact resultOk_callResult hc hq

end Results

/-- Settles O19: a step that answers drives a result of one of the four kinds and leaves the span and the parameters as
they were. -/
theorem stepKeepsInvariant : Obligations.StepKeepsInvariant := by
  rintro s t ⟨hspan, -⟩ hstep
  obtain ⟨hc, -, r, hr, rfl⟩ := (step_eq_next_iff s t).1 hstep
  refine ⟨hspan, ?_⟩
  rintro _ ⟨⟩
  exact resultOk_callResult hc hr

/-- Settles O20: the span is empty and no result is held. -/
theorem resetHasInvariant : Obligations.ResetHasInvariant :=
  ⟨reset_wf, fun _ hr => by cases hr⟩

/-- Settles O21: the parameters, tables and inputs are read off; REF is a well-formed table at the default limits, and
the entries of the reference numbering are compared one by one. -/
theorem resetLeavesReferenceConfiguration : Obligations.ResetLeavesReferenceConfiguration :=
  ⟨rfl, rfl, rfl, ⟨rfl, by decide, by decide⟩, rfl, by decide⟩

/-- Settles O7: a truthful length leaves only the ends of a call, and each is of one of the four kinds. -/
theorem everyTruthfulCallEndsWithAResult : Obligations.EveryTruthfulCallEndsWithAResult := by
  intro s hc ht
  obtain ⟨r, hr, hstep⟩ := step_of_truthful hc ht
  exact ⟨r, resultOk_callResult hc hr, hstep⟩

/-- Every step ends or is refused: each premise that fails has its refusal, and with all of them the call ends. -/
theorem step_next_or_refused (s : State) : (∃ t, step s = .next t) ∨ ∃ r, step s = .refused r := by
  by_cases hfeatures : s.features = Config.allFeatures s.params
  · cases hports : portsFit s with
    | false => exact .inr ⟨_, call_of_ports hfeatures hports⟩
    | true =>
      cases htable : tableOk s.params s.table with
      | false => exact .inr ⟨_, call_of_table hfeatures hports htable⟩
      | true =>
        by_cases ht : s.truthful
        · obtain ⟨r, -, hstep⟩ := step_of_truthful ⟨hfeatures, hports, htable⟩ ht
          exact .inl ⟨_, hstep⟩
        · exact .inr ⟨_, call_of_untruthful ⟨hfeatures, hports, htable⟩ ht⟩
  · exact .inr ⟨_, call_of_features hfeatures⟩

/-- Settles O5: a step that ends or is refused does not fault. -/
theorem noCallFaults : Obligations.NoCallFaults := by
  intro s f hfault
  rcases step_next_or_refused s with ⟨t, hnext⟩ | ⟨r, hrefused⟩
  · exact nomatch hfault.symm.trans hnext
  · exact nomatch hfault.symm.trans hrefused

/-- Settles O1: the check of FEATURES is the first. -/
theorem featuresOtherThanAllOnesAreRefused : Obligations.FeaturesOtherThanAllOnesAreRefused :=
  fun _ hfeatures => call_of_features hfeatures

/-- Settles O2: each of the three too wide values fails the check of the ports, which comes second. -/
theorem inputsWiderThanTheirPortsAreRefused : Obligations.InputsWiderThanTheirPortsAreRefused := by
  intro s hfeatures hwide
  refine call_of_ports hfeatures (Bool.eq_false_iff.2 fun hports => ?_)
  simp only [portsFit, Bool.and_eq_true, decide_eq_true_eq] at hports
  obtain ⟨⟨hlen, haddr⟩, hregs⟩ := hports
  rcases hwide with hwide | hwide | ⟨c, i, hi, hwide⟩
  · exact Nat.not_lt.2 hwide hlen
  · exact Nat.not_lt.2 hwide haddr
  · exact Nat.not_lt.2 hwide ((regtabFits_iff _ _).1 hregs c i hi)

/-- Settles O4: an absent byte below the length makes the length untruthful. -/
theorem lengthsBeyondTheSpanAreRefused : Obligations.LengthsBeyondTheSpanAreRefused := by
  rintro s hc ⟨k, hk, habsent⟩
  exact call_of_untruthful hc fun ht => ht k hk habsent

/-- Settles O9: the unmatched terminal ends R154 at stage 2. -/
theorem unmatchedWordIsUnrecognizedEncoding : Obligations.UnmatchedWordIsUnrecognizedEncoding := by
  intro s w hc hw hwalk
  refine (endsWith_iff_decodeWordWith hc hw _).2 ?_
  rw [decodeWordWith, hwalk]
  rfl

/-- No check and no stage of a call reads the held result, and its end overwrites it (R20). -/
theorem step_withResult (s : State) (r : Option Result) : step { s with result := r } = step s := by
  simp only [step, call, runWord_eq]
  rfl

/-- Settles O14: a reset between two calls only changes the held result. -/
theorem earlierResultsDoNotMatter : Obligations.EarlierResultsDoNotMatter :=
  ⟨step_withResult, fun s => step_withResult s none⟩

/-- Settles O15: the next state differs from the first in the held result alone, which the second call does not read. -/
theorem repeatingACallChangesNothing : Obligations.RepeatingACallChangesNothing := by
  intro s t hstep
  obtain ⟨-, -, r, -, rfl⟩ := (step_eq_next_iff s t).1 hstep
  rw [step_withResult, hstep]

/-- What a state that differs in the held result alone has in common with the first (R20, R156). -/
theorem frame_of_withResult {s t : State} {r : Result} (h : t = { s with result := some r }) :
    t.params = s.params ∧ t.table = s.table ∧ t.regtab = s.regtab ∧ t.features = s.features ∧
      t.len = s.len ∧ t.addr = s.addr ∧ (∀ k, readByte t.span k = readByte s.span k) ∧ t.result.isSome = true := by
  subst h
  exact ⟨rfl, rfl, rfl, rfl, rfl, rfl, fun _ => rfl, rfl⟩

/-- Every instruction's meaning is one delivery of the builder (R154 stages 3 and 4). -/
theorem exec_eq_deliver (i : Instr) (s : State) : ∃ opcode ops, exec i s = deliver opcode ops s := by
  cases i <;> exact ⟨_, _, rfl⟩

/-- Settles O16: a step that ends changes the held result alone. -/
theorem stepChangesOnlyTheResult : Obligations.StepChangesOnlyTheResult := by
  intro s t hstep
  obtain ⟨-, -, r, -, hsame⟩ := (step_eq_next_iff s t).1 hstep
  exact frame_of_withResult hsame

/-- Settles O17: every meaning is a delivery, which changes the held result alone. -/
theorem meaningsChangeOnlyTheResult : Obligations.MeaningsChangeOnlyTheResult := by
  intro i s t hexec
  obtain ⟨opcode, ops, hdeliver⟩ := exec_eq_deliver i s
  exact frame_of_withResult (finish_next (hdeliver.symm.trans hexec))

/-- A call whose word's walk reaches a leaf runs that leaf. -/
theorem step_of_walk {s : State} {w : Word} {l : Leaf} (hc : s.configured) (hw : s.presents w)
    (hwalk : walk w s.table = some l) : step s = runLeaf l w s := by
  have hfetch := fetchWord_of_presents hw
  obtain ⟨htruthful, hlen, -⟩ := hw
  calc step s = runWord w s := call_of_word hc htruthful hlen hfetch
    _ = runLeaf l w s := by rw [runWord, hwalk]

/-- A leaf that stands for an instruction is run by its meaning. -/
theorem runLeaf_of_instrOf {l : Leaf} {w : Word} {i : Instr} (h : instrOf l w = some i) (s : State) :
    runLeaf l w s = exec i s := by
  rw [runLeaf, h]

/-- What the decoder of REF's words has found when it answers an instruction. -/
theorem decodeWord_eq_ok_iff (w : Word) (i : Instr) :
    decodeWord w = .ok i ↔ ∃ l, walk w ref = some l ∧ instrOf l w = some i := by
  rw [decodeWord]
  cases walk w ref with
  | none => simp
  | some l => cases hinstr : instrOf l w <;> simp [hinstr]

/-- Settles O18: the decoder reads the word as the walk and `instrOf` do, and a call runs the leaf that the walk
reaches by the instruction that `instrOf` reads. -/
theorem stepRunsTheDecodedInstruction : Obligations.StepRunsTheDecodedInstruction := by
  have hmeaning (s : State) (w : Word) (l : Leaf) (i : Instr) (hc : s.configured) (hw : s.presents w)
      (hwalk : walk w s.table = some l) (hinstr : instrOf l w = some i) : step s = exec i s :=
    (step_of_walk hc hw hwalk).trans (runLeaf_of_instrOf hinstr s)
  refine ⟨fun s w i hruns hw hdecode => ?_, hmeaning⟩
  obtain ⟨hc, href⟩ := hruns
  rw [decode, assemble_bytes, decodeWord_eq_ok_iff] at hdecode
  obtain ⟨l, hwalk, hinstr⟩ := hdecode
  exact hmeaning s w l i hc hw (href ▸ hwalk) hinstr

/-- Byte `k` of a word is Lean's own slice of it. -/
theorem byteOf_eq_extractLsb (w : Word) (k : Nat) : byteOf w k = w.extractLsb' (8 * k) 8 := by
  apply BitVec.eq_of_toNat_eq
  rw [byteOf, BitVec.toNat_ofNat, BitVec.extractLsb'_toNat, Nat.shiftRight_eq_div_pow]

/-- A placed word is presented: its length is truthful, and bytes 0 to 3 are the word's (R343 b). -/
theorem placeWord_presents (w : Word) (s : State) : (placeWord w s).presents w := by
  obtain ⟨hholds, hlen⟩ := placeWord_holds w s
  have hbyte (k : Nat) (hk : k < 4) : bufRead (placeWord w s) k = some (w.extractLsb' (8 * k) 8) := by
    rw [bufRead, placeWord_span, readByte_writeWord, if_pos hk, byteOf_eq_extractLsb]
  exact ⟨(truthful_iff _).2 hholds, hlen, hbyte 0 (by decide), hbyte 1 (by decide), hbyte 2 (by decide),
    hbyte 3 (by decide)⟩

/-- Settles O22: placing the word writes bytes 0 to 3, keeps the others and the canonical form. -/
theorem placedWordIsPresented : Obligations.PlacedWordIsPresented := by
  intro s nbits w
  refine ⟨placeWord_presents (tableWord nbits w) s, fun k hk => ?_, placeWord_wf (tableWord nbits w) s⟩
  rw [withFetchWord_eq, placeWord_span, readByte_writeWord, if_neg (Nat.not_lt.2 hk)]

end Sys2Proof.CallOutcomes
end

section
/-! PROOF. The flat view of a table (spec/30_encoding.md R76 to R78; spec/41_decode_engine.md R118). A selector's mask
and value say of a word exactly that its slice has the value; selectors on one path share no bit, so a row's mask and
pattern say exactly that the word takes the row's path. -/

namespace Sys2Proof.FlatPatterns

open Sys2Proof.Machine Sys2Proof.Laws Sys2Proof.ReferenceWalk Sys2Proof.Trees Sys2Proof.WellFormedTables

section Masks

variable {r sel : BitRange} {w mask pattern : Word} {v : Nat}

/-- The bits of a selector's mask are those of the range (R76). -/
theorem rangeMask_getLsbD_eq (hr : ¬ outsideWord r) (i : Nat) :
    (rangeMask r).getLsbD i = decide (r.lo ≤ i ∧ i ≤ r.hi) := by
  have hwidth : i - r.lo < rangeWidth r ↔ i ≤ r.hi := by
    rw [rangeWidth]
    omega
  simp only [rangeMask, BitVec.getLsbD_ofNat, Nat.testBit_mul_two_pow, Nat.testBit_two_pow_sub_one, hwidth]
  by_cases hi : i < 32 <;> simp [hi]
  omega

/-- A selector's value in its place is a number shifted up, and no bit of it falls out of the word (R76). -/
theorem rangePattern_toNat (hr : ¬ outsideWord r) (hv : v < 2 ^ rangeWidth r) :
    (rangePattern r v).toNat = v * 2 ^ r.lo := by
  have hfits : v * 2 ^ r.lo < 2 ^ 32 := by
    calc v * 2 ^ r.lo < 2 ^ rangeWidth r * 2 ^ r.lo := Nat.mul_lt_mul_of_pos_right hv (Nat.two_pow_pos r.lo)
      _ = 2 ^ (rangeWidth r + r.lo) := (Nat.pow_add 2 _ _).symm
      _ ≤ 2 ^ 32 := Nat.pow_le_pow_right Nat.two_pos (by rw [rangeWidth]; omega)
  rw [rangePattern, BitVec.toNat_ofNat, Nat.mod_eq_of_lt hfits]

/-- The bits of a slice are the word's, from `lo` on (R72). -/
theorem slice_testBit (w : Word) (r : BitRange) (j : Nat) :
    (slice w r).testBit j = (decide (j < rangeWidth r) && w.getLsbD (r.lo + j)) := by
  rw [slice_eq_extractLsb, BitVec.testBit_toNat, BitVec.getLsbD_extractLsb']

/-- The bits of a word under a selector's mask are its slice in its place. -/
theorem and_rangeMask (hr : ¬ outsideWord r) (w : Word) : w &&& rangeMask r = rangePattern r (slice w r) := by
  apply BitVec.eq_of_getLsbD_eq
  intro i hi
  have hwidth : i - r.lo < rangeWidth r ↔ i ≤ r.hi := by
    rw [rangeWidth]
    omega
  rw [BitVec.getLsbD_and, rangeMask_getLsbD_eq hr, rangePattern, BitVec.getLsbD_ofNat, Nat.testBit_mul_two_pow,
    slice_testBit]
  by_cases hlo : r.lo ≤ i
  · simp [hlo, hi, hwidth, Nat.add_sub_cancel' hlo, Bool.and_comm]
  · simp [hlo]

/-- A word has a selector's value in its place exactly when its slice is the value (R76, R110). -/
theorem and_rangeMask_eq_iff (hr : ¬ outsideWord r) (hv : v < 2 ^ rangeWidth r) :
    w &&& rangeMask r = rangePattern r v ↔ slice w r = v := by
  rw [and_rangeMask hr]
  refine ⟨fun h => ?_, fun h => by rw [h]⟩
  have hnum := congrArg BitVec.toNat h
  rw [rangePattern_toNat hr (slice_lt w r), rangePattern_toNat hr hv] at hnum
  exact Nat.eq_of_mul_eq_mul_right (Nat.two_pow_pos r.lo) hnum

/-- A selector's value in its place lies under the selector's mask. -/
theorem rangePattern_and_rangeMask (hr : ¬ outsideWord r) (hv : v < 2 ^ rangeWidth r) :
    rangePattern r v &&& rangeMask r = rangePattern r v := by
  rw [and_rangeMask_eq_iff hr hv, slice, rangePattern_toNat hr hv, Nat.mul_div_cancel _ (Nat.two_pow_pos r.lo),
    Nat.mod_eq_of_lt hv]

/-- The masks of selectors that share no bit are disjoint (WF4). -/
theorem rangeMask_and_rangeMask (hr : ¬ outsideWord r) (hsel : ¬ outsideWord sel) (hdisjoint : ¬ shareBit r sel) :
    rangeMask r &&& rangeMask sel = 0 := by
  apply BitVec.eq_of_getLsbD_eq
  intro i _
  rw [BitVec.getLsbD_and, rangeMask_getLsbD_eq hr, rangeMask_getLsbD_eq hsel, ← Bool.decide_and]
  simpa using fun hrlo hrhi hlo => Nat.lt_of_not_le fun hhi => hdisjoint ⟨i, hrlo, hrhi, hlo, hhi⟩

/-- Patterns under disjoint masks, joined, are found again under each mask. -/
theorem or_and_eq_of_disjoint {m₁ m₂ p₁ p₂ : Word} (hdisjoint : m₁ &&& m₂ = 0) (h₁ : p₁ &&& m₁ = p₁)
    (h₂ : p₂ &&& m₂ = p₂) : (p₁ ||| p₂) &&& m₁ = p₁ ∧ (p₁ ||| p₂) &&& m₂ = p₂ := by
  have hzero₁ : p₁ &&& m₂ = 0#32 := by
    rw [← h₁, BitVec.and_assoc, hdisjoint]
    exact BitVec.and_zero
  have hzero₂ : p₂ &&& m₁ = 0#32 := by
    rw [← h₂, BitVec.and_assoc, BitVec.and_comm m₂, hdisjoint]
    exact BitVec.and_zero
  rw [BitVec.and_or_distrib_right, BitVec.and_or_distrib_right, h₁, h₂, hzero₁, hzero₂]
  exact ⟨BitVec.or_zero, BitVec.zero_or⟩

/-- Under two disjoint masks a word has two patterns, each under its mask, exactly when it has each (R76). -/
theorem and_or_eq_or_iff {m₁ m₂ p₁ p₂ : Word} (hdisjoint : m₁ &&& m₂ = 0) (h₁ : p₁ &&& m₁ = p₁) (h₂ : p₂ &&& m₂ = p₂) :
    w &&& (m₁ ||| m₂) = p₁ ||| p₂ ↔ w &&& m₁ = p₁ ∧ w &&& m₂ = p₂ := by
  obtain ⟨hleft, hright⟩ := or_and_eq_of_disjoint hdisjoint h₁ h₂
  constructor
  · intro h
    have hboth : (p₁ ||| p₂) &&& (m₁ ||| m₂) = p₁ ||| p₂ := by
      rw [BitVec.and_or_distrib_left, hleft, hright]
    obtain ⟨heq₁, heq₂⟩ := and_eq_and_of_or (h.trans hboth.symm)
    exact ⟨heq₁.trans hleft, heq₂.trans hright⟩
  · rintro ⟨heq₁, heq₂⟩
    rw [BitVec.and_or_distrib_left, heq₁, heq₂]

end Masks

section Rows

variable {p : Params} {path : List BitRange} {sel : BitRange} {ch : Children} {w pattern : Word} {l : Leaf}

/-- The mask that the flat rows gather along a path, the nearest selector first (R76). -/
def pathMask : List BitRange → Word
  | [] => 0
  | sel :: path => pathMask path ||| rangeMask sel

/-- A selector that shares no bit with those above it lies outside their mask (WF4). -/
theorem pathMask_and_rangeMask (hpath : ∀ q ∈ path, ¬ outsideWord q) (hsel : ¬ outsideWord sel)
    (hdisjoint : ∀ q ∈ path, ¬ shareBit q sel) : pathMask path &&& rangeMask sel = 0 := by
  induction path with
  | nil => exact BitVec.zero_and
  | cons q path ih =>
    obtain ⟨hq, hpath⟩ := List.forall_mem_cons.1 hpath
    obtain ⟨hqsel, hdisjoint⟩ := List.forall_mem_cons.1 hdisjoint
    rw [pathMask, BitVec.and_or_distrib_right, ih hpath hdisjoint, rangeMask_and_rangeMask hq hsel hqsel]
    exact BitVec.or_zero

/-- What a well-formed branch gives to each of its children, in the words of the path's mask and pattern: the child's
pattern lies under its mask, and a word has it exactly when it has the branch's and the selector's value is the
child's. -/
theorem child_pattern (hpath : ∀ q ∈ path, ¬ outsideWord q) (hgood : ¬ badBranch p path sel ch)
    (hpattern : pattern &&& pathMask path = pattern) {c : Nat × Node} (hc : c ∈ childPairs ch) :
    (pattern ||| rangePattern sel c.1) &&& pathMask (sel :: path) = pattern ||| rangePattern sel c.1 ∧
    ∀ w : Word, w &&& pathMask (sel :: path) = pattern ||| rangePattern sel c.1 ↔
      w &&& pathMask path = pattern ∧ c.1 = slice w sel := by
  obtain ⟨hsel, -, hvalues, -, hdisjoint⟩ := (not_badBranch_iff path sel ch).1 hgood
  have hvalue : c.1 < 2 ^ rangeWidth sel := hvalues _ (List.mem_map_of_mem hc)
  have hmasks := pathMask_and_rangeMask hpath hsel hdisjoint
  have hunder := rangePattern_and_rangeMask hsel hvalue
  have hsplit (w : Word) := and_or_eq_or_iff (w := w) hmasks hpattern hunder
  refine ⟨(hsplit _).2 (or_and_eq_of_disjoint hmasks hpattern hunder), fun w => ?_⟩
  rw [pathMask, hsplit, and_rangeMask_eq_iff hsel hvalue, eq_comm (a := slice w sel)]

/-- A word satisfies a row below a node exactly when it has taken the path to the node and walks on to the row's
leaf. -/
theorem exists_row_iff (t : Node) (path : List BitRange) (pattern : Word) (hpath : ∀ q ∈ path, ¬ outsideWord q)
    (hok : ReachedOk p path t) (hpattern : pattern &&& pathMask path = pattern) :
    (∃ r ∈ flatRowsFrom (pathMask path) pattern t, r.leaf = l ∧ w &&& r.mask = r.pattern) ↔
      w &&& pathMask path = pattern ∧ walk w t = some l := by
  induction t using node_induction generalizing path pattern with
  | unmatched => simp [flatRowsFrom, walk]
  | leaf m => simp [flatRowsFrom, walk, and_comm]
  | branch sel ch ih =>
    obtain ⟨hgood, hchildren⟩ := (reachedOk_branch_iff path sel ch).1 hok
    obtain ⟨hsel, hnodup, -⟩ := (not_badBranch_iff path sel ch).1 hgood
    have hbelow : ∀ q ∈ sel :: path, ¬ outsideWord q := List.forall_mem_cons.2 ⟨hsel, hpath⟩
    have hchild (c : Nat × Node) (hc : c ∈ childPairs ch) :
        (∃ r ∈ flatRowsFrom (pathMask (sel :: path)) (pattern ||| rangePattern sel c.1) c.2,
          r.leaf = l ∧ w &&& r.mask = r.pattern) ↔
        w &&& pathMask path = pattern ∧ c.1 = slice w sel ∧ walk w c.2 = some l := by
      obtain ⟨hunder, htaken⟩ := child_pattern hpath hgood hpattern hc
      rw [ih c hc (sel :: path) _ hbelow (hchildren c hc) hunder, htaken, and_assoc]
    rw [flatRowsFrom, flatRowsOfChildren_eq, walk_branch_eq_some_iff hnodup]
    constructor
    · rintro ⟨r, hr, hrow⟩
      obtain ⟨c, hc, hmem⟩ := List.mem_flatMap.1 hr
      obtain ⟨htaken, hwalk⟩ := (hchild c hc).1 ⟨r, hmem, hrow⟩
      exact ⟨htaken, c, hc, hwalk⟩
    · rintro ⟨htaken, c, hc, hwalk⟩
      obtain ⟨r, hmem, hrow⟩ := (hchild c hc).2 ⟨htaken, hwalk⟩
      exact ⟨r, List.mem_flatMap.2 ⟨c, hc, hmem⟩, hrow⟩

/-- Two rows have no word in common (R78). -/
abbrev DisjointRows (a b : FlatRow) : Prop := ∀ w : Word, ¬ (w &&& a.mask = a.pattern ∧ w &&& b.mask = b.pattern)

/-- Rows below two children of a branch ask for two values of its selector, and rows below one child are disjoint in
their turn (R78). -/
theorem pairwise_disjoint_flatRowsFrom (t : Node) (path : List BitRange) (pattern : Word)
    (hpath : ∀ q ∈ path, ¬ outsideWord q) (hok : ReachedOk p path t) (hpattern : pattern &&& pathMask path = pattern) :
    (flatRowsFrom (pathMask path) pattern t).Pairwise DisjointRows := by
  induction t using node_induction generalizing path pattern with
  | unmatched => exact List.Pairwise.nil
  | leaf m => exact List.pairwise_singleton _ _
  | branch sel ch ih =>
    obtain ⟨hgood, hchildren⟩ := (reachedOk_branch_iff path sel ch).1 hok
    obtain ⟨hsel, hnodup, -⟩ := (not_badBranch_iff path sel ch).1 hgood
    have hbelow : ∀ q ∈ sel :: path, ¬ outsideWord q := List.forall_mem_cons.2 ⟨hsel, hpath⟩
    have htaken {w : Word} {c : Nat × Node} {r : FlatRow} (hc : c ∈ childPairs ch)
        (hr : r ∈ flatRowsFrom (pathMask (sel :: path)) (pattern ||| rangePattern sel c.1) c.2)
        (hw : w &&& r.mask = r.pattern) : c.1 = slice w sel := by
      obtain ⟨hunder, htaken⟩ := child_pattern hpath hgood hpattern hc
      have hreach := (exists_row_iff c.2 (sel :: path) _ hbelow (hchildren c hc) hunder).1 ⟨r, hr, rfl, hw⟩
      exact ((htaken w).1 hreach.1).2
    rw [flatRowsFrom, flatRowsOfChildren_eq, List.pairwise_flatMap]
    refine ⟨fun c hc => ?_, ?_⟩
    · exact ih c hc (sel :: path) _ hbelow (hchildren c hc) (child_pattern hpath hgood hpattern hc).1
    · refine (List.pairwise_map.1 hnodup).imp_of_mem fun hc hd hne a ha b hb w hboth => hne ?_
      exact (htaken hc ha hboth.1).trans (htaken hd hb hboth.2).symm

/-- The walk of a node visits no more branches than the depth left below its path (WF3). -/
theorem branchesVisited_le (t : Node) (path : List BitRange) (hok : ReachedOk p path t)
    (hdepth : path.length ≤ p.depthMax) : path.length + branchesVisited w t ≤ p.depthMax := by
  induction t using node_induction generalizing path with
  | unmatched => exact hdepth
  | leaf m => exact hdepth
  | branch sel ch ih =>
    obtain ⟨hgood, hchildren⟩ := (reachedOk_branch_iff path sel ch).1 hok
    obtain ⟨-, -, -, hroom, -⟩ := (not_badBranch_iff path sel ch).1 hgood
    rw [branchesVisited]
    rcases branchesBelow_cases w (slice w sel) ch with hnone | ⟨c, hc, hvisited⟩
    · omega
    · have hbelow := ih c hc (sel :: path) (hchildren c hc) hroom
      rw [List.length_cons] at hbelow
      omega

end Rows

section Tables

variable {p : Params} {t : Node} {w : Word} {l : Leaf}

/-- A word walks to a leaf of a well-formed table exactly when it satisfies a flat row of that leaf (R118). -/
theorem walk_eq_some_iff_row (hok : tableOk p t = true) :
    walk w t = some l ↔ ∃ r ∈ flatRows t, r.leaf = l ∧ w &&& r.mask = r.pattern := by
  have hroot := exists_row_iff (w := w) (l := l) t [] 0 (by simp) ((tableOk_iff p t).1 hok) (by decide)
  have hempty : w &&& pathMask [] = 0#32 := BitVec.and_zero
  exact (hroot.trans (and_iff_right hempty)).symm

/-- A word walks to unmatched exactly when it satisfies no row. -/
theorem walk_eq_none_iff_row (hok : tableOk p t = true) :
    walk w t = none ↔ ∀ r ∈ flatRows t, w &&& r.mask ≠ r.pattern := by
  simp only [Option.eq_none_iff_forall_ne_some, ne_eq, walk_eq_some_iff_row hok, not_exists, not_and]
  exact ⟨fun h r hr => h r.leaf r hr rfl, fun h _ r hr _ => h r hr⟩

/-- The flat rows of REF are the rows of `opcode_table.json`, in the order of the tree (R80, R81). -/
theorem flatRows_ref_perm : (flatRows ref).Perm opcodeRows := by
  decide

/-- Settles O23: a row's mask and pattern say that the word takes the row's path. -/
theorem walkIsTheFlatPattern : Obligations.WalkIsTheFlatPattern :=
  ⟨fun _ _ _ hok => ⟨fun _ => walk_eq_some_iff_row hok, walk_eq_none_iff_row hok⟩, flatRows_ref_perm⟩

/-- Settles O24: two rows part at the branch where their paths do. -/
theorem rowsOfAWellFormedTableAreDisjoint : Obligations.RowsOfAWellFormedTableAreDisjoint :=
  fun p t hok => pairwise_disjoint_flatRowsFrom t [] 0 (by simp) ((tableOk_iff p t).1 hok) (by decide)

/-- A table that breaks a condition under some limits breaks it under smaller ones. -/
theorem illFormed_of_le {p q : Params} (hopcode : p.opcW ≤ q.opcW) (hcount : p.maxOperands ≤ q.maxOperands)
    (hdepth : p.depthMax ≤ q.depthMax) (hill : illFormed q t) : illFormed p t := by
  rcases hill with ⟨path, l, hreach, hbad⟩ | ⟨path, sel, ch, hreach, hbad⟩
  · refine .inl ⟨path, l, hreach, ?_⟩
    have hpow : 2 ^ p.opcW ≤ 2 ^ q.opcW := Nat.pow_le_pow_right Nat.two_pos hopcode
    exact hbad.imp_right (.imp (Nat.le_trans hpow) (.imp_left (Nat.lt_of_le_of_lt hcount)))
  · refine .inr ⟨path, sel, ch, hreach, ?_⟩
    exact hbad.imp_right (.imp_right (.imp_right (.imp_left (Nat.lt_of_le_of_lt hdepth))))

/-- A table that is well formed under some limits is so under larger ones. -/
theorem tableOk_of_le {p q : Params} (hopcode : p.opcW ≤ q.opcW) (hcount : p.maxOperands ≤ q.maxOperands)
    (hdepth : p.depthMax ≤ q.depthMax) (hok : tableOk p t = true) : tableOk q t = true := by
  by_contra hnot
  obtain ⟨hcheck, -⟩ := illFormedTablesAreRefused
  have hill := illFormed_of_le hopcode hcount hdepth ((hcheck q t).2 (Bool.eq_false_iff.2 hnot))
  exact Bool.false_ne_true (((hcheck p t).1 hill).symm.trans hok)

/-- The least limits of REF: 6 bits of an opcode identifier, 3 operands, 4 branches on a path. -/
def refRoom : Params := { Params.defaults with opcW := 6, maxOperands := 3, depthMax := 4 }

theorem tableOk_ref_refRoom : tableOk refRoom ref = true := by
  decide

/-- Settles O27: a walk visits at most `DEPTH_MAX` branches, and REF is well formed with `DEPTH_MAX` 4. -/
theorem walkDepthIsBounded : Obligations.WalkDepthIsBounded := by
  have hbound (p : Params) (t : Node) (w : Word) (hok : tableOk p t = true) : branchesVisited w t ≤ p.depthMax := by
    simpa using branchesVisited_le (w := w) t [] ((tableOk_iff p t).1 hok) (Nat.zero_le _)
  exact ⟨hbound, fun w => hbound refRoom ref w tableOk_ref_refRoom⟩

/-- Settles O28: larger limits than `refRoom` keep REF well formed; and FMV_W_X, whose walk visits 4 branches and whose
identifier is 47, and ADDI, which has 3 operands, need that room. -/
theorem referenceTableNeedsItsRoom : Obligations.ReferenceTableNeedsItsRoom := by
  intro p
  constructor
  · intro hok
    obtain ⟨hdepth, -⟩ := walkDepthIsBounded
    have hfmv : walk 0xF0000053#32 ref = some leafFmvWX := by decide
    have haddi : walk 0x00000013#32 ref = some leafAddi := by decide
    obtain ⟨-, hopcode, -⟩ := (not_badLeaf_iff _).1 (not_badLeaf_of_walk hok hfmv)
    obtain ⟨-, -, hcount, -⟩ := (not_badLeaf_iff _).1 (not_badLeaf_of_walk hok haddi)
    exact ⟨hdepth p ref 0xF0000053#32 hok, hcount, hopcode⟩
  · rintro ⟨hdepth, hcount, hopcode⟩
    have hwidth : 6 ≤ p.opcW := (Nat.pow_lt_pow_iff_right (by decide : 1 < 2)).1 (hopcode.trans_le' (by decide))
    exact tableOk_of_le hwidth hcount hdepth tableOk_ref_refRoom

end Tables

section Select

variable {rows : List FlatRow} {t : Node} {w : Word} {a b : FlatRow}

/-- The candidates of a word are the rows it belongs to (R77). -/
theorem mem_candidates_iff (r : FlatRow) : r ∈ candidates rows w ↔ r ∈ rows ∧ w &&& r.mask = r.pattern := by
  rw [candidates, List.mem_filter, rowMatches, decide_eq_true_eq]

/-- A list in which no two equally specific rows share a word is not rejected (R77). -/
theorem not_flatRejected_of_pairwise
    (h : ∀ w : Word, rows.Pairwise fun a b => popcount a.mask = popcount b.mask →
      ¬ (w &&& a.mask = a.pattern ∧ w &&& b.mask = b.pattern)) : ¬ flatRejected rows := by
  rintro ⟨w, htie⟩
  obtain ⟨a, -, ha⟩ := List.any_eq_true.1 htie
  simp only [Bool.and_eq_true, decide_eq_true_eq] at ha
  obtain ⟨htwo, -⟩ := ha
  have hequal (r : FlatRow) (hr : r ∈ (candidates rows w).filter fun b => decide (popcount b.mask = popcount a.mask)) :
      popcount r.mask = popcount a.mask ∧ w &&& r.mask = r.pattern := by
    obtain ⟨hcandidate, hcount⟩ := List.mem_filter.1 hr
    exact ⟨of_decide_eq_true hcount, ((mem_candidates_iff r).1 hcandidate).2⟩
  have hpairwise := ((h w).filter (rowMatches w)).filter fun b => decide (popcount b.mask = popcount a.mask)
  rw [← candidates] at hpairwise
  match hties : (candidates rows w).filter fun b => decide (popcount b.mask = popcount a.mask) with
  | [] | [_] => simp [hties] at htwo
  | x :: y :: rest =>
    rw [hties] at hequal hpairwise
    obtain ⟨hx, hxw⟩ := hequal x (by simp)
    obtain ⟨hy, hyw⟩ := hequal y (by simp)
    exact List.rel_of_pairwise_cons hpairwise (List.mem_cons_self) (hx.trans hy.symm) ⟨hxw, hyw⟩

/-- Of disjoint rows a word has at most one candidate, so the walk that follows the rows is the selection (R77). -/
theorem constructs_of_disjoint (hdisjoint : rows.Pairwise DisjointRows)
    (hwalk : ∀ w l, walk w t = some l ↔ ∃ r ∈ rows, r.leaf = l ∧ w &&& r.mask = r.pattern) : constructs t rows := by
  refine ⟨not_flatRejected_of_pairwise fun w => hdisjoint.imp fun hab _ => hab w, fun w => ?_⟩
  rw [selectLeaf]
  match hcandidates : candidates rows w with
  | [] =>
    refine Option.eq_none_iff_forall_ne_some.2 fun l hl => ?_
    obtain ⟨r, hr, -, hw⟩ := (hwalk w l).1 hl
    have hmem : r ∈ candidates rows w := (mem_candidates_iff r).2 ⟨hr, hw⟩
    simp [hcandidates] at hmem
  | [r] =>
    obtain ⟨hr, hw⟩ := (mem_candidates_iff r).1 (hcandidates ▸ List.mem_singleton_self r)
    exact (hwalk w r.leaf).2 ⟨r, hr, rfl, hw⟩
  | x :: y :: rest =>
    have hpairwise := hdisjoint.filter (rowMatches w)
    rw [← candidates, hcandidates] at hpairwise
    have hmatch (r : FlatRow) (hr : r ∈ x :: y :: rest) : w &&& r.mask = r.pattern :=
      ((mem_candidates_iff r).1 (hcandidates ▸ hr)).2
    exact absurd ⟨hmatch x (by simp), hmatch y (by simp)⟩ (List.rel_of_pairwise_cons hpairwise List.mem_cons_self w)

/-- Settles O25: the rows of a well-formed table are disjoint and its walk follows them; those of REF are the rows of
`opcode_table.json`, and neither fact depends on their order. -/
theorem tablesConstructTheirRows : Obligations.TablesConstructTheirRows := by
  refine ⟨fun p t hok => constructs_of_disjoint (rowsOfAWellFormedTableAreDisjoint p t hok) fun w l =>
    walk_eq_some_iff_row hok, constructs_of_disjoint ?_ fun w l => ?_⟩
  · have hsymm : ∀ {a b : FlatRow}, DisjointRows a b → DisjointRows b a := fun hab w hw => hab w hw.symm
    exact (flatRows_ref_perm.pairwise_iff hsymm).1 (rowsOfAWellFormedTableAreDisjoint _ ref tableOk_ref_refRoom)
  · simp only [walk_eq_some_iff_row tableOk_ref_refRoom, flatRows_ref_perm.mem_iff]

/-- Of two nested rows the more specific one wins where it matches, and the other elsewhere (R77). -/
theorem selectLeaf_pair (hcount : popcount a.mask < popcount b.mask)
    (hnested : w &&& b.mask = b.pattern → w &&& a.mask = a.pattern) :
    selectLeaf [a, b] w =
      if w &&& b.mask = b.pattern then some b.leaf else if w &&& a.mask = a.pattern then some a.leaf else none := by
  rw [selectLeaf, candidates]
  by_cases hb : w &&& b.mask = b.pattern
  · simp [rowMatches, hb, hnested hb, moreSpecific, hcount]
  · by_cases ha : w &&& a.mask = a.pattern <;> simp [rowMatches, ha, hb]

/-- Two rows of different popcounts never tie. -/
theorem not_flatRejected_pair (hcount : popcount a.mask < popcount b.mask) : ¬ flatRejected [a, b] :=
  not_flatRejected_of_pairwise fun _ => List.pairwise_pair.2 fun heq => absurd heq (Nat.ne_of_lt hcount)

theorem rowGen_iff (w : Word) : w &&& rowGen.mask = rowGen.pattern ↔ slice w ⟨6, 0⟩ = 0x0B :=
  and_rangeMask_eq_iff (r := ⟨6, 0⟩) (v := 0x0B) (by decide) (by decide)

theorem rowSpec_iff (w : Word) :
    w &&& rowSpec.mask = rowSpec.pattern ↔ slice w ⟨6, 0⟩ = 0x0B ∧ slice w ⟨14, 12⟩ = 1 := by
  refine (and_or_eq_or_iff (m₁ := rowGen.mask) (m₂ := rangeMask ⟨14, 12⟩) (p₁ := rowGen.pattern)
    (p₂ := rangePattern ⟨14, 12⟩ 1) (by decide) (by decide) (by decide)).trans ?_
  rw [rowGen_iff, and_rangeMask_eq_iff (by decide) (by decide)]

/-- T-OVL tests the opcode field, and then funct3, of which only 1 is the more specific leaf. -/
theorem walk_tableOvl (w : Word) :
    walk w tableOvl = if slice w ⟨6, 0⟩ = 0x0B ∧ slice w ⟨14, 12⟩ = 1 then some leafSpec
      else if slice w ⟨6, 0⟩ = 0x0B then some leafGen else none := by
  have hfunct3 : slice w ⟨14, 12⟩ < 8 := slice_lt w ⟨14, 12⟩
  simp only [tableOvl, onOpcode, onFunct3, childrenOf, walk, walkChildren, eq_comm (b := slice w _)]
  by_cases hop : slice w ⟨6, 0⟩ = 0x0B
  · interval_cases slice w ⟨14, 12⟩ <;> simp [hop]
  · simp [hop]

/-- Settles O26: on the two nested rows the selection is T-OVL's walk; in the longer list the word 0x0000100B ties
between two rows of 10 bits. -/
theorem moreSpecificRowWins : Obligations.MoreSpecificRowWins := by
  have hspec : popcount rowGen.mask < popcount rowSpec.mask := by decide
  have halt : popcount rowGen.mask < popcount rowAlt.mask := by decide
  refine ⟨⟨not_flatRejected_pair hspec, fun w => ?_⟩, ⟨0x0000100B#32, by decide⟩, not_flatRejected_pair halt,
    fun w hw => ?_⟩
  · have hnested : w &&& rowSpec.mask = rowSpec.pattern → w &&& rowGen.mask = rowGen.pattern := by
      rw [rowSpec_iff, rowGen_iff]
      exact And.left
    rw [selectLeaf_pair hspec hnested, walk_tableOvl]
    simp only [rowSpec_iff, rowGen_iff]
    rfl
  · have hnested : w &&& rowAlt.mask = rowAlt.pattern → w &&& rowGen.mask = rowGen.pattern := fun h =>
      and_eq_and_of_part (v := rowAlt.pattern) (mask := rowAlt.mask) (by decide) (h.trans (by decide))
    rw [selectLeaf_pair halt hnested]
    exact if_pos hw

end Select

end Sys2Proof.FlatPatterns
end

section
/-! PROOF. Fields, resolvers and ports (spec/30_encoding.md R72; spec/40_bitfield_extractor.md R104;
spec/43_immediate_resolvers.md R146; spec/10_state.md R27). A number of `N` bits in two's complement is fixed by its
range and its residue; the slot array is the operands followed by empty slots. -/

namespace Sys2Proof.FieldsAndPorts

open Sys2Proof.Machine Sys2Proof.Laws Sys2Proof.BitfieldExtractor Sys2Proof.InstructionBuilder
  Sys2Proof.ImmediateResolvers Sys2Proof.FlatPatterns Sys2Proof.CallOutcomes

section Fields

variable {w : Word}

theorem rawWidth_append (rs ss : List BitRange) : rawWidth (rs ++ ss) = rawWidth rs + rawWidth ss := by
  induction rs with
  | nil => simp [rawWidth]
  | cons r rs ih => rw [List.cons_append, rawWidth, rawWidth, ih, Nat.add_assoc]

/-- Joined ranges: the first ones are most significant (R72). -/
theorem field_append (w : Word) (rs ss : List BitRange) :
    field w (rs ++ ss) = field w rs * 2 ^ rawWidth ss + field w ss := by
  induction rs with
  | nil => simp [field]
  | cons r rs ih => rw [List.cons_append, field, field, ih, rawWidth_append, Nat.pow_add]; ring

/-- Settles O31: the field of one range is its slice, whose bits are the word's from `lo` on. -/
theorem fieldTakesTheNamedBits : Obligations.FieldTakesTheNamedBits := by
  refine ⟨fun w hi lo j hlo hhi => ?_, field_append, fun w => ?_⟩
  · have hwidth : j < rangeWidth ⟨hi, lo⟩ ↔ j ≤ hi - lo := Nat.lt_succ_iff
    rw [field_single, slice_testBit]
    simp only [hwidth]
  · rw [field_single, slice_eq_extractLsb]
    exact congrArg BitVec.toNat (BitVec.extractLsb'_eq_self (x := w))

/-- Byte 0 of an assembled word is the first byte, and the rest of the word is the other three (R100). -/
theorem assemble_extractLsb (b0 b1 b2 b3 : Byte) :
    (assemble b0 b1 b2 b3).extractLsb' 0 8 = b0 ∧ (assemble b0 b1 b2 b3).extractLsb' 8 8 = b1 ∧
    (assemble b0 b1 b2 b3).extractLsb' 16 8 = b2 ∧ (assemble b0 b1 b2 b3).extractLsb' 24 8 = b3 := by
  have hbyte {k : Nat} {b : Byte} (h : (assemble b0 b1 b2 b3).toNat / 2 ^ k % 2 ^ 8 = b.toNat) :
      (assemble b0 b1 b2 b3).extractLsb' k 8 = b := by
    apply BitVec.eq_of_toNat_eq
    rw [BitVec.extractLsb'_toNat, Nat.shiftRight_eq_div_pow, h]
  have h0 := b0.isLt
  have h1 := b1.isLt
  have h2 := b2.isLt
  have h3 := b3.isLt
  refine ⟨hbyte ?_, hbyte ?_, hbyte ?_, hbyte ?_⟩ <;> rw [assemble_toNat] <;> omega

/-- Settles O30: byte `k` weighs `2^(8k)` in the word, so assembly and slicing undo each other; and a call's result is
what R154 gives the word, whatever span presents it. -/
theorem assemblyIsABijection : Obligations.AssemblyIsABijection := by
  refine ⟨assemble_bytes, assemble_extractLsb, fun s m w r hc hs hm hstep => ?_⟩
  exact (endsWith_iff_decodeWordWith (s := { s with span := m }) hc hm r).2
    ((endsWith_iff_decodeWordWith hc hs r).1 hstep)

end Fields

section Immediates

variable {n raw : Nat}

/-- Two numbers within one period of `m` that agree modulo `m` are equal. -/
theorem eq_of_emod_eq_of_range {x y lo m : Int} (hx : lo ≤ x ∧ x < lo + m) (hy : lo ≤ y ∧ y < lo + m)
    (hmod : x % m = y % m) : x = y := by
  have hdvd : m ∣ x - y := Int.ModEq.dvd hmod.symm
  have hzero : x - y = 0 := Int.eq_zero_of_abs_lt_dvd hdvd (abs_lt.2 ⟨by omega, by omega⟩)
  omega

/-- The period of `N` bits, split at the sign (N at least 1). -/
theorem two_pow_eq_two_mul (hpos : 1 ≤ n) : (2 : Int) ^ n = 2 * 2 ^ (n - 1) := by
  rw [← pow_succ', Nat.sub_add_cancel hpos]

/-- The sign extension of a double is the double of the sign extension at one bit less (R146). -/
theorem sext_two_mul_toInt (htwo : 2 ≤ n) (hle : n ≤ 64) (raw : Nat) :
    (sext n (2 * raw)).toInt = 2 * (sext (n - 1) raw).toInt := by
  have hpos : 1 ≤ n := Nat.le_of_succ_le htwo
  have hperiod := two_pow_eq_two_mul hpos
  have hpos' : 1 ≤ n - 1 := Nat.le_sub_of_add_le htwo
  have hperiod' := two_pow_eq_two_mul hpos'
  have hle' : n - 1 ≤ 64 := Nat.le_trans (Nat.sub_le n 1) hle
  have hlow := le_sext_toInt (v := 2 * raw) hpos hle
  have hhigh := sext_toInt_le (v := 2 * raw) hpos hle
  have hlow' := le_sext_toInt (v := raw) hpos' hle'
  have hhigh' := sext_toInt_le (v := raw) hpos' hle'
  have hmod : (sext n (2 * raw)).toInt % 2 ^ n = 2 * (sext (n - 1) raw).toInt % 2 ^ n := by
    rw [sext_toInt_emod hpos hle, hperiod, Int.mul_emod_mul_of_pos _ _ two_pos, sext_toInt_emod hpos' hle',
      Nat.cast_mul, Nat.cast_ofNat, Int.mul_emod_mul_of_pos _ _ two_pos]
  refine eq_of_emod_eq_of_range (lo := -2 ^ (n - 1)) (m := 2 ^ n) ⟨hlow, ?_⟩ ⟨?_, ?_⟩ hmod <;> omega

/-- A field of fewer than `N` bits has its sign bit clear, so its sign extension is its value (R146). -/
theorem sext_toInt_of_lt (hpos : 1 ≤ n) (hle : n ≤ 64) (hraw : raw < 2 ^ (n - 1)) : (sext n raw).toInt = raw := by
  have hperiod := two_pow_eq_two_mul hpos
  have hlow := le_sext_toInt (v := raw) hpos hle
  have hhigh := sext_toInt_le (v := raw) hpos hle
  have hbound : (raw : Int) < 2 ^ (n - 1) := by exact_mod_cast hraw
  refine eq_of_emod_eq_of_range (lo := -2 ^ (n - 1)) (m := 2 ^ n) ⟨hlow, ?_⟩ ⟨?_, ?_⟩ (sext_toInt_emod hpos hle) <;>
    omega

/-- Settles O36: the residue of a sign extension is its argument's; the other two numbers agree in residue and range. -/
theorem immediateIdentitiesHold : Obligations.ImmediateIdentitiesHold := by
  refine ⟨fun n v hpos hle => sext_toInt_emod hpos hle, fun n rw raw _ htwo hle _ => ?_,
    fun n rw raw hwidth hle hraw => ?_⟩
  · exact ⟨sext n (2 * raw), rfl, sext_two_mul_toInt htwo hle raw⟩
  · have hbits : raw < 2 ^ (n - 1) := hraw.trans_le (Nat.pow_le_pow_right Nat.two_pos (Nat.le_sub_one_of_lt hwidth))
    exact ⟨sext n raw, rfl, sext_toInt_of_lt (Nat.one_le_of_lt hwidth) hle hbits⟩

end Immediates

section Ports

variable {p : Params} {ops : List Operand}

theorem slotsOf_length (p : Params) (ops : List Operand) : (slotsOf p ops).length = p.maxOperands := by
  simp [slotsOf]

/-- The slots below the operand count carry the operands in order (R151). -/
theorem slotsOf_getElem? {o : Operand} (hcount : ops.length ≤ p.maxOperands) {j : Nat} (hj : ops[j]? = some o) :
    (slotsOf p ops)[j]? = some (slotOf o) := by
  obtain ⟨hlt, -⟩ := List.getElem?_eq_some_iff.1 hj
  rw [slotsOf, List.getElem?_take_of_lt (hlt.trans_le hcount), List.getElem?_append_left (by simpa using hlt),
    List.getElem?_map, hj, Option.map_some]

/-- The slots from the operand count on are empty (R151). -/
theorem slotsOf_getElem?_empty {j : Nat} (hj : ops.length ≤ j) (hslot : j < p.maxOperands) :
    (slotsOf p ops)[j]? = some emptySlot := by
  rw [slotsOf, List.getElem?_take_of_lt hslot, List.getElem?_append_right (by simpa using hj), List.getElem?_replicate,
    if_pos (by rw [List.length_map]; omega)]

/-- The ports of a result without a record carry its status and its consumed size. -/
theorem portsOf_failed {r : Result} (p : Params) (a : Nat) (h : r.record = none) :
    (portsOf p r a).status = statusCode r.status ∧ (portsOf p r a).consumed = r.consumed := by
  rw [portsOf, h]
  exact ⟨rfl, rfl⟩

/-- What the ports show of a result that a call can end with and that is not a success. -/
theorem portsOf_of_resultOk {r : Result} (a : Nat) (hok : resultOk p r) (hfailed : r.status ≠ .success) :
    (portsOf p r a).status = statusCode r.status ∧ (portsOf p r a).consumed = consumedFor r.status := by
  obtain ⟨hzero, hfour, hrecord, -⟩ := hok
  have hnone : r.record = none := Option.not_isSome_iff_eq_none.1 (mt hrecord.1 hfailed)
  obtain ⟨hstatus, hconsumed⟩ := portsOf_failed p a hnone
  refine ⟨hstatus, hconsumed.trans ?_⟩
  cases hr : r.status with
  | success => exact absurd hr hfailed
  | insufficientInput => exact hzero hr
  | unrecognizedEncoding | invalidOperand => exact hfour (by simp [hr])

/-- Settles O37: the slots are the operands and then empty ones; a failed call has no record, and its code and consumed
size go with its status. -/
theorem portsCarryTheRecord : Obligations.PortsCarryTheRecord := by
  refine ⟨fun p opcode ops a a' hcount hports => ?_, fun s r hc hstep => ?_⟩
  · have hnops : (BitVec.ofNat 4 ops.length).toNat = ops.length := by
      rw [BitVec.toNat_ofNat]
      omega
    refine ⟨rfl, rfl, rfl, hnops, rfl, rfl, slotsOf_length p ops, fun j id hj hid => ?_, fun j v hj => ?_,
      fun j => slotsOf_getElem?_empty⟩
    · exact ⟨_, slotsOf_getElem? hcount hj, by rw [BitVec.toNat_ofNat, Nat.mod_eq_of_lt hid]⟩
    · exact slotsOf_getElem? hcount hj
  · have hports := portsOf_of_resultOk s.addr (resultOk_of_endsWith hstep)
    refine ⟨fun hr => ?_, fun hr => ?_, fun hr => ?_⟩ <;>
      · rw [hr] at hports
        exact hports (by simp)

end Ports

end Sys2Proof.FieldsAndPorts
end

section
/-! PROOF. The laws of the decode call (spec/44_instruction_builder.md R158) and the boundary of a register class
(spec/42_register_resolvers.md R133), each read off what stages 2 to 4 of R154 can answer. -/

namespace Sys2Proof.CallLaws

open Sys2Proof.Machine Sys2Proof.Laws Sys2Proof.BitfieldExtractor Sys2Proof.InstructionBuilder Sys2Proof.Exceptions
  Sys2Proof.FlatPatterns Sys2Proof.CallOutcomes

section Laws

variable {s t : State} {r : Result} {w : Word} {table : Node} {l : Leaf}

/-- A step that ends has the result of a short call, or from a length of 4 on that of the word fetched. -/
theorem result_cases (hstep : endsWith (step s) s r) :
    (s.len < 4 ∧ r = failed .insufficientInput 0#3) ∨
    (4 ≤ s.len ∧ ∃ w, r = decodeWordWith s.table s.regtab w s.addr) := by
  obtain ⟨hc, ht, -⟩ := (step_eq_next_iff _ _).1 hstep
  have hr := (endsWith_iff_callResult hc ht r).1 hstep
  rcases Nat.lt_or_ge s.len 4 with hshort | hlong
  · rw [callResult_of_short hshort] at hr
    exact .inl ⟨hshort, (Option.some_inj.1 hr).symm⟩
  · obtain ⟨w, hw⟩ := fetchWord_of_truthful ht hlong
    rw [callResult_of_word hlong hw] at hr
    exact .inr ⟨hlong, w, (Option.some_inj.1 hr).symm⟩

/-- A word's result is never InsufficientInput. -/
theorem decodeWordWith_status_ne (table : Node) (rt : RegTab) (w : Word) (a : Nat) :
    (decodeWordWith table rt w a).status ≠ .insufficientInput := by
  obtain ⟨-, hr⟩ | ⟨l, -, ⟨-, hr⟩ | ⟨ops, -, hr⟩⟩ := decodeWordWith_cases table rt w a <;> simp [hr]

/-- InsufficientInput is the status of the short calls (R158 a). -/
theorem status_eq_insufficientInput_iff (hstep : endsWith (step s) s r) :
    r.status = .insufficientInput ↔ s.len < 4 := by
  obtain ⟨hshort, rfl⟩ | ⟨hlong, w, rfl⟩ := result_cases hstep
  · exact iff_of_true rfl hshort
  · exact iff_of_false (decodeWordWith_status_ne _ _ w _) (Nat.not_lt.2 hlong)

/-- Nothing is consumed exactly on InsufficientInput (R152, R158 a). -/
theorem consumed_eq_zero_iff {p : Params} (hok : resultOk p r) : r.consumed = 0#3 ↔ r.status = .insufficientInput := by
  obtain ⟨hzero, hfour, -⟩ := hok
  refine ⟨fun hconsumed => ?_, hzero⟩
  by_contra hother
  exact absurd (hconsumed.symm.trans (hfour hother)) (by decide)

/-- A successful word has a leaf, whose operands the record carries (R158 c). -/
theorem record_of_success {rt : RegTab} {a : Nat} (hsuccess : (decodeWordWith table rt w a).status = .success) :
    ∃ (l : Leaf) (ops : List Operand), walk w table = some l ∧ ops.length = l.operands.length ∧
      (decodeWordWith table rt w a).record = some ⟨l.opcode, ops, 4#3, a⟩ := by
  obtain ⟨-, hr⟩ | ⟨l, hwalk, ⟨-, hr⟩ | ⟨ops, hops, hr⟩⟩ := decodeWordWith_cases table rt w a
  · simp [hr] at hsuccess
  · simp [hr] at hsuccess
  · exact ⟨l, ops, hwalk, by simpa using congrArg List.length hops, by rw [hr]⟩

/-- The address enters a word's result only as the record's address (R153, R158 d). -/
theorem decodeWordWith_withAddr (table : Node) (rt : RegTab) (w : Word) (a a' : Nat) :
    decodeWordWith table rt w a' =
      ⟨(decodeWordWith table rt w a).status, (decodeWordWith table rt w a).consumed,
        (decodeWordWith table rt w a).record.map fun rc => ⟨rc.opcode, rc.operands, rc.size, a'⟩⟩ := by
  cases hwalk : walk w table with
  | none => simp only [decodeWordWith, hwalk]; rfl
  | some l =>
    simp only [decodeWordWith_of_leaf rt _ hwalk, builtResult]
    cases collect (l.operands.map (resolveSpec rt w)) <;> rfl

/-- A leaf of a table with narrow register fields has no bad index: 5 bits hold less than 32 (R158 e). -/
theorem not_badIndex_of_narrow {p : Params} (hok : tableOk p table = true) (hnarrow : narrowRegisters table)
    (hwalk : walk w table = some l) : ¬ badIndex l w := by
  rintro ⟨sp, hsp, hregister, hindex⟩
  obtain ⟨row, hrow, rfl, -⟩ := (walk_eq_some_iff_row hok).1 hwalk
  have hwidth := hnarrow row hrow sp hsp hregister
  have hfield : field w sp.ranges < 2 ^ 5 :=
    (field_lt w sp.ranges).trans_le (Nat.pow_le_pow_right Nat.two_pos hwidth)
  omega

/-- Where every register field is narrow, no word fails with InvalidOperand (R158 e). -/
theorem decodeWordWith_status_of_narrow {p : Params} (hok : tableOk p table = true) (hnarrow : narrowRegisters table)
    (rt : RegTab) (w : Word) (a : Nat) : (decodeWordWith table rt w a).status ≠ .invalidOperand := by
  obtain ⟨-, hr⟩ | ⟨l, hwalk, ⟨hbad, -⟩ | ⟨ops, -, hr⟩⟩ := decodeWordWith_cases table rt w a
  · simp [hr]
  · exact absurd hbad (not_badIndex_of_narrow hok hnarrow hwalk)
  · simp [hr]

theorem narrowRegisters_ref : narrowRegisters ref := by
  unfold narrowRegisters
  decide

/-- Settles O13: the status decides the consumed size, the length decides InsufficientInput, the leaf decides the rest
of a success, and a narrow field has no bad index. -/
theorem callLawsHold : Obligations.CallLawsHold := by
  refine ⟨fun s r hc hstep => ?lawsAB, fun s w r hc hw hstep hsuccess => ?lawC,
    fun s t w r hcs hct hws hwt htable hregs hstep => ?lawD, fun s r hc hnarrow hstep => ?lawE, narrowRegisters_ref⟩
  case lawsAB =>
    have hok := resultOk_of_endsWith hstep
    have hstatus := status_eq_insufficientInput_iff hstep
    have hconsumed := consumed_eq_zero_iff hok
    obtain ⟨-, hfour, -⟩ := hok
    exact ⟨hconsumed, hstatus, fun hlong => hfour fun h => Nat.not_lt.2 hlong (hstatus.1 h)⟩
  case lawC =>
    obtain rfl := (endsWith_iff_decodeWordWith hc hw r).1 hstep
    exact record_of_success hsuccess
  case lawD =>
    obtain rfl := (endsWith_iff_decodeWordWith hcs hws r).1 hstep
    refine (endsWith_iff_decodeWordWith hct hwt _).2 ?_
    rw [htable, hregs]
    exact decodeWordWith_withAddr s.table s.regtab w s.addr t.addr
  case lawE =>
    obtain ⟨-, rfl⟩ | ⟨-, w, rfl⟩ := result_cases hstep
    · simp
    · obtain ⟨-, -, htable⟩ := hc
      exact decodeWordWith_status_of_narrow htable hnarrow s.regtab w s.addr

end Laws

section Boundary

variable (u : BitVec 7) (a b c : BitVec 6)

/-- The one leaf of T-REG6 (spec/95_test_vectors.md section 2.3). -/
def reg6Leaf : Leaf := ⟨100, [⟨.gpr, 6, [⟨12, 7⟩]⟩, ⟨.fpr32, 6, [⟨18, 13⟩]⟩, ⟨.fpr64, 6, [⟨24, 19⟩]⟩]⟩

/-- The word of T-REG6 as a number. -/
theorem wordReg6_toNat : (wordReg6 u c b a).toNat =
    u.toNat * 2 ^ 25 + c.toNat * 2 ^ 19 + b.toNat * 2 ^ 13 + a.toNat * 2 ^ 7 + 0x0B := by
  simp only [wordReg6, toNat_append_eq, BitVec.toNat_ofNat]
  omega

theorem walk_tableReg6 : walk (wordReg6 u c b a) tableReg6 = some reg6Leaf := by
  have hopcode : slice (wordReg6 u c b a) ⟨6, 0⟩ = 0x0B := by
    simp only [slice, wordReg6_toNat, rangeWidth]
    omega
  rw [tableReg6, walk, hopcode]
  rfl

/-- The three register fields are the three indices. -/
theorem field_wordReg6 :
    field (wordReg6 u c b a) [⟨12, 7⟩] = a.toNat ∧ field (wordReg6 u c b a) [⟨18, 13⟩] = b.toNat ∧
      field (wordReg6 u c b a) [⟨24, 19⟩] = c.toNat := by
  have ha := a.isLt
  have hb := b.isLt
  have hc := c.isLt
  refine ⟨?_, ?_, ?_⟩ <;>
    · simp only [field_single, slice, wordReg6_toNat, rangeWidth]
      omega

/-- The operands of the leaf resolve to lookups of the three indices. -/
theorem resolve_reg6Leaf (rt : RegTab) : reg6Leaf.operands.map (resolveSpec rt (wordReg6 u c b a)) =
    [lookupReg rt .gpr a.toNat, lookupReg rt .fpr32 b.toNat, lookupReg rt .fpr64 c.toNat] := by
  obtain ⟨ha, hb, hc⟩ := field_wordReg6 u a b c
  simp only [reg6Leaf, List.map_cons, List.map_nil, resolveSpec, ha, hb, hc]
  rfl

theorem badIndex_reg6Leaf_iff :
    badIndex reg6Leaf (wordReg6 u c b a) ↔ 32 ≤ a.toNat ∨ 32 ≤ b.toNat ∨ 32 ≤ c.toNat := by
  obtain ⟨ha, hb, hc⟩ := field_wordReg6 u a b c
  simp [badIndex, reg6Leaf, isRegister, ha, hb, hc]

/-- Settles O12: every word of T-REG6 reaches its one leaf, whose operands are looked up at the three 6-bit indices. -/
theorem sixBitRegisterFieldsAreBoundChecked : Obligations.SixBitRegisterFieldsAreBoundChecked := by
  intro s u a b c hs htable hw
  have hwalk : walk (wordReg6 u c b a) s.table = some reg6Leaf := htable ▸ walk_tableReg6 u a b c
  constructor
  · intro ha hb hc
    refine (operandsFollowTheLeafInOrder s _ reg6Leaf _ hs hw hwalk).2 ?_
    rw [resolve_reg6Leaf, lookupReg_of_lt _ _ ha, lookupReg_of_lt _ _ hb, lookupReg_of_lt _ _ hc]
    rfl
  · intro hbad
    obtain ⟨hfails, -⟩ := matchedLeafFailsExactlyOnABadIndex s _ reg6Leaf hs hw hwalk
    exact hfails ((badIndex_reg6Leaf_iff u a b c).2 hbad)

end Boundary

end Sys2Proof.CallLaws
end

section
/-! PROOF. Decoder and encoder (spec/30_encoding.md section 5). An encoded word satisfies its row, so its walk ends at
its leaf, where each raw field is read back from where the format put it. Conversely the mask of a row and the fields of its
leaf cover the word, so nothing of a recognised word is lost. -/

namespace Sys2Proof.RoundTrip

open Sys2Proof.Machine Sys2Proof.Laws Sys2Proof.ReferenceWalk Sys2Proof.FlatPatterns Sys2Proof.WellFormedTables
  Sys2Proof.CallOutcomes

section Formats

variable (f7 : BitVec 7) (f3 : BitVec 3) (op : BitVec 7) (rd rs1 rs2 : RegIx) (imm : BitVec 12) (raw : BitVec 20)

/-- A raw field, read at the width of the bits that it is. -/
theorem fieldBits_eq {w : Word} {rs : List BitRange} {m : Nat} {x : BitVec m} (h : field w rs = x.toNat) :
    fieldBits m w rs = x := by
  rw [fieldBits, h, BitVec.ofNat_toNat, BitVec.setWidth_eq]

/-- The fields of format R, where the format puts them (R79). -/
theorem fields_encR : fieldBits 5 (encR f7 f3 op rs2 rs1 rd) rdAt = rd ∧
    fieldBits 5 (encR f7 f3 op rs2 rs1 rd) rs1At = rs1 ∧ fieldBits 5 (encR f7 f3 op rs2 rs1 rd) rs2At = rs2 ∧
    fieldBits 5 (encR f7 f3 op rs2 rs1 rd) shamtAt = rs2 := by
  refine ⟨fieldBits_eq ?_, fieldBits_eq ?_, fieldBits_eq ?_, fieldBits_eq ?_⟩ <;>
    · simp only [rdAt, rs1At, rs2At, shamtAt, field_single, slice, encR, toNat_append_eq, rangeWidth]
      omega

/-- The fields of format I (R79). -/
theorem fields_encI : fieldBits 5 (encI f3 op imm rs1 rd) rdAt = rd ∧
    fieldBits 5 (encI f3 op imm rs1 rd) rs1At = rs1 ∧ fieldBits 12 (encI f3 op imm rs1 rd) immIAt = imm := by
  refine ⟨fieldBits_eq ?_, fieldBits_eq ?_, fieldBits_eq ?_⟩ <;>
    · simp only [rdAt, rs1At, immIAt, field_single, slice, encI, toNat_append_eq, rangeWidth]
      omega

/-- The fields of format S, the immediate joined from its two parts (R79). -/
theorem fields_encS : fieldBits 5 (encS f3 op imm rs2 rs1) rs2At = rs2 ∧
    fieldBits 5 (encS f3 op imm rs2 rs1) rs1At = rs1 ∧ fieldBits 12 (encS f3 op imm rs2 rs1) immSAt = imm := by
  have hslices : slice (encS f3 op imm rs2 rs1) ⟨24, 20⟩ = rs2.toNat ∧
      slice (encS f3 op imm rs2 rs1) ⟨19, 15⟩ = rs1.toNat ∧
      slice (encS f3 op imm rs2 rs1) ⟨31, 25⟩ = (imm.extractLsb 11 5).toNat ∧
      slice (encS f3 op imm rs2 rs1) ⟨11, 7⟩ = (imm.extractLsb 4 0).toNat := by
    refine ⟨?_, ?_, ?_, ?_⟩ <;>
      · simp only [slice, encS, toNat_append_eq, rangeWidth]
        omega
  obtain ⟨hrs2, hrs1, hhigh, hlow⟩ := hslices
  refine ⟨fieldBits_eq ((field_single _ _).trans hrs2), fieldBits_eq ((field_single _ _).trans hrs1), fieldBits_eq ?_⟩
  simp only [immSAt, field, hhigh, hlow, rawWidth, rangeWidth, BitVec.extractLsb_toNat, Nat.shiftRight_eq_div_pow]
  omega

/-- The fields of format B, the offset joined from its four parts (R79). -/
theorem fields_encB : fieldBits 5 (encB f3 op imm rs2 rs1) rs2At = rs2 ∧
    fieldBits 5 (encB f3 op imm rs2 rs1) rs1At = rs1 ∧ fieldBits 12 (encB f3 op imm rs2 rs1) immBAt = imm := by
  have hslices : slice (encB f3 op imm rs2 rs1) ⟨24, 20⟩ = rs2.toNat ∧
      slice (encB f3 op imm rs2 rs1) ⟨19, 15⟩ = rs1.toNat ∧
      slice (encB f3 op imm rs2 rs1) ⟨31, 31⟩ = (imm.extractLsb 11 11).toNat ∧
      slice (encB f3 op imm rs2 rs1) ⟨7, 7⟩ = (imm.extractLsb 10 10).toNat ∧
      slice (encB f3 op imm rs2 rs1) ⟨30, 25⟩ = (imm.extractLsb 9 4).toNat ∧
      slice (encB f3 op imm rs2 rs1) ⟨11, 8⟩ = (imm.extractLsb 3 0).toNat := by
    refine ⟨?_, ?_, ?_, ?_, ?_, ?_⟩ <;>
      · simp only [slice, encB, toNat_append_eq, rangeWidth]
        omega
  obtain ⟨hrs2, hrs1, hbit12, hbit11, hhigh, hlow⟩ := hslices
  refine ⟨fieldBits_eq ((field_single _ _).trans hrs2), fieldBits_eq ((field_single _ _).trans hrs1), fieldBits_eq ?_⟩
  simp only [immBAt, field, hbit12, hbit11, hhigh, hlow, rawWidth, rangeWidth, BitVec.extractLsb_toNat,
    Nat.shiftRight_eq_div_pow]
  omega

/-- The fields of format U (R79). -/
theorem fields_encU : fieldBits 5 (encU op raw rd) rdAt = rd ∧ fieldBits 20 (encU op raw rd) immUAt = raw := by
  refine ⟨fieldBits_eq ?_, fieldBits_eq ?_⟩ <;>
    · simp only [rdAt, immUAt, field_single, slice, encU, toNat_append_eq, rangeWidth]
      omega

/-- The fields of format J, the offset joined from its four parts (R79). -/
theorem fields_encJ : fieldBits 5 (encJ op raw rd) rdAt = rd ∧ fieldBits 20 (encJ op raw rd) immJAt = raw := by
  have hslices : slice (encJ op raw rd) ⟨11, 7⟩ = rd.toNat ∧
      slice (encJ op raw rd) ⟨31, 31⟩ = (raw.extractLsb 19 19).toNat ∧
      slice (encJ op raw rd) ⟨19, 12⟩ = (raw.extractLsb 18 11).toNat ∧
      slice (encJ op raw rd) ⟨20, 20⟩ = (raw.extractLsb 10 10).toNat ∧
      slice (encJ op raw rd) ⟨30, 21⟩ = (raw.extractLsb 9 0).toNat := by
    refine ⟨?_, ?_, ?_, ?_, ?_⟩ <;>
      · simp only [slice, encJ, toNat_append_eq, rangeWidth]
        omega
  obtain ⟨hrd, hbit20, hhigh, hbit11, hlow⟩ := hslices
  refine ⟨fieldBits_eq ((field_single _ _).trans hrd), fieldBits_eq ?_⟩
  simp only [immJAt, field, hbit20, hhigh, hbit11, hlow, rawWidth, rangeWidth, BitVec.extractLsb_toNat,
    Nat.shiftRight_eq_div_pow]
  omega

end Formats

section Encode

/-- The fields of an encoded word are read back into the instruction. -/
theorem readInstr_encode (i : Instr) : readInstr (leafOf i).opcode (encode i) = some i := by
  cases i <;> refine congrArg some ?_ <;>
    simp [encode, fields_encR, fields_encI, fields_encS, fields_encB, fields_encU, fields_encJ]

/-- The word of every instruction satisfies its row. -/
theorem encodingMatchesRow : ∀ i : Instr, EncodingMatchesRow.Statement i
  | .lui rd imm => EncodingMatchesRow.lui rd imm
  | .auipc rd imm => EncodingMatchesRow.auipc rd imm
  | .jal rd raw => EncodingMatchesRow.jal rd raw
  | .jalr rd rs1 imm => EncodingMatchesRow.jalr rd rs1 imm
  | .beq rs1 rs2 raw => EncodingMatchesRow.beq rs1 rs2 raw
  | .bne rs1 rs2 raw => EncodingMatchesRow.bne rs1 rs2 raw
  | .blt rs1 rs2 raw => EncodingMatchesRow.blt rs1 rs2 raw
  | .bge rs1 rs2 raw => EncodingMatchesRow.bge rs1 rs2 raw
  | .bltu rs1 rs2 raw => EncodingMatchesRow.bltu rs1 rs2 raw
  | .bgeu rs1 rs2 raw => EncodingMatchesRow.bgeu rs1 rs2 raw
  | .lb rd rs1 imm => EncodingMatchesRow.lb rd rs1 imm
  | .lh rd rs1 imm => EncodingMatchesRow.lh rd rs1 imm
  | .lw rd rs1 imm => EncodingMatchesRow.lw rd rs1 imm
  | .lbu rd rs1 imm => EncodingMatchesRow.lbu rd rs1 imm
  | .lhu rd rs1 imm => EncodingMatchesRow.lhu rd rs1 imm
  | .sb rs2 rs1 imm => EncodingMatchesRow.sb rs2 rs1 imm
  | .sh rs2 rs1 imm => EncodingMatchesRow.sh rs2 rs1 imm
  | .sw rs2 rs1 imm => EncodingMatchesRow.sw rs2 rs1 imm
  | .addi rd rs1 imm => EncodingMatchesRow.addi rd rs1 imm
  | .slti rd rs1 imm => EncodingMatchesRow.slti rd rs1 imm
  | .sltiu rd rs1 imm => EncodingMatchesRow.sltiu rd rs1 imm
  | .xori rd rs1 imm => EncodingMatchesRow.xori rd rs1 imm
  | .ori rd rs1 imm => EncodingMatchesRow.ori rd rs1 imm
  | .andi rd rs1 imm => EncodingMatchesRow.andi rd rs1 imm
  | .slli rd rs1 shamt => EncodingMatchesRow.slli rd rs1 shamt
  | .srli rd rs1 shamt => EncodingMatchesRow.srli rd rs1 shamt
  | .srai rd rs1 shamt => EncodingMatchesRow.srai rd rs1 shamt
  | .add rd rs1 rs2 => EncodingMatchesRow.add rd rs1 rs2
  | .sub rd rs1 rs2 => EncodingMatchesRow.sub rd rs1 rs2
  | .sll rd rs1 rs2 => EncodingMatchesRow.sll rd rs1 rs2
  | .slt rd rs1 rs2 => EncodingMatchesRow.slt rd rs1 rs2
  | .sltu rd rs1 rs2 => EncodingMatchesRow.sltu rd rs1 rs2
  | .xor rd rs1 rs2 => EncodingMatchesRow.xor rd rs1 rs2
  | .srl rd rs1 rs2 => EncodingMatchesRow.srl rd rs1 rs2
  | .sra rd rs1 rs2 => EncodingMatchesRow.sra rd rs1 rs2
  | .or rd rs1 rs2 => EncodingMatchesRow.or rd rs1 rs2
  | .and rd rs1 rs2 => EncodingMatchesRow.and rd rs1 rs2
  | .ecall => EncodingMatchesRow.ecall
  | .ebreak => EncodingMatchesRow.ebreak
  | .flw rd rs1 imm => EncodingMatchesRow.flw rd rs1 imm
  | .fld rd rs1 imm => EncodingMatchesRow.fld rd rs1 imm
  | .fsw rs2 rs1 imm => EncodingMatchesRow.fsw rs2 rs1 imm
  | .fsd rs2 rs1 imm => EncodingMatchesRow.fsd rs2 rs1 imm
  | .fsgnjS rd rs1 rs2 => EncodingMatchesRow.fsgnjS rd rs1 rs2
  | .fsgnjD rd rs1 rs2 => EncodingMatchesRow.fsgnjD rd rs1 rs2
  | .fmvXW rd rs1 => EncodingMatchesRow.fmvXW rd rs1
  | .fmvWX rd rs1 => EncodingMatchesRow.fmvWX rd rs1

/-- The word of an instruction walks to the instruction's leaf (R80, R81). -/
theorem walk_encode (i : Instr) : walk (encode i) ref = some (leafOf i) := by
  obtain ⟨r, hr, hleaf, hmatch⟩ := encodingMatchesRow i
  rw [← hleaf]
  exact walk_ref_of_row hr hmatch

/-- A leaf stands for an instruction when the instruction is read at its identifier and has that leaf. -/
theorem instrOf_eq_some_iff (l : Leaf) (w : Word) (i : Instr) :
    instrOf l w = some i ↔ readInstr l.opcode w = some i ∧ leafOf i = l := by
  rw [instrOf]
  cases readInstr l.opcode w with
  | none => simp
  | some j =>
    by_cases hleaf : leafOf j = l
    · simp only [hleaf, if_true, Option.some_inj, iff_self_and]
      rintro rfl
      exact hleaf
    · simp only [hleaf, if_false, Option.some_inj, reduceCtorEq, false_iff, not_and]
      rintro rfl
      exact hleaf

/-- The decoder reads the word of an instruction back: its walk ends at the leaf, at which its fields are read. -/
theorem decodeWord_encode (i : Instr) : decodeWord (encode i) = .ok i := by
  rw [decodeWord_eq_ok_iff]
  exact ⟨leafOf i, walk_encode i, (instrOf_eq_some_iff _ _ _).2 ⟨readInstr_encode i, rfl⟩⟩

/-- The bytes of a word assemble to it (R51, R100). -/
theorem decode_wordBytes (w : Word) : decode (wordBytes w) = decodeWord w := by
  rw [wordBytes, decode, byteOf_eq_extractLsb, byteOf_eq_extractLsb, byteOf_eq_extractLsb, byteOf_eq_extractLsb]
  exact congrArg decodeWord (assemble_bytes w)

/-- Settles O38: the bytes of the encoded word assemble to it, and the word is read back. -/
theorem decodeInvertsEncode : Obligations.DecodeInvertsEncode := fun i =>
  (decode_wordBytes (encode i)).trans (decodeWord_encode i)

/-- A word written out as an instruction's encoding decodes to the instruction. -/
theorem decodeWord_of_encode {w : Word} {i : Instr} (h : encode i = w) : decodeWord w = .ok i :=
  h ▸ decodeWord_encode i

/-- Settles O40: each word written out is the encoded word of what it stands for. -/
theorem writtenOutWordsDecode : Obligations.WrittenOutWordsDecode := by
  have hbytes : decode [0x13#8, 0x05#8, 0x10#8, 0x00#8] = decodeWord (assemble 0x13#8 0x05#8 0x10#8 0x00#8) := rfl
  rw [Obligations.WrittenOutWordsDecode, hbytes]
  refine ⟨decodeWord_of_encode ?addi, decodeWord_of_encode ?lui, decodeWord_of_encode ?jal, decodeWord_of_encode ?beq,
    decodeWord_of_encode ?lw, decodeWord_of_encode ?sw, decodeWord_of_encode ?srai, decodeWord_of_encode ?sub,
    decodeWord_of_encode ?ebreak, decodeWord_of_encode ?fsd, decodeWord_of_encode ?fmvXW⟩ <;> decide

end Encode

section Decode

variable {w v : Word}

/-- The first slice of a field is its upper digit, in the base that the raw width of the others gives (R72). -/
theorem field_cons_div (w : Word) (r : BitRange) (rs : List BitRange) :
    field w (r :: rs) / 2 ^ rawWidth rs = slice w r := by
  rw [field, Nat.add_comm, Nat.add_mul_div_right _ _ (Nat.two_pow_pos _), Nat.div_eq_of_lt (field_lt w rs),
    Nat.zero_add]

/-- The other slices of a field are its lower digit. -/
theorem field_cons_mod (w : Word) (r : BitRange) (rs : List BitRange) :
    field w (r :: rs) % 2 ^ rawWidth rs = field w rs := by
  rw [field, Nat.mul_add_mod_of_lt (field_lt w rs)]

/-- Equal fields have equal slices. -/
theorem slice_eq_of_field_eq {rs : List BitRange} (h : field w rs = field v rs) : ∀ r ∈ rs, slice w r = slice v r := by
  induction rs with
  | nil => simp
  | cons r rs ih =>
    refine List.forall_mem_cons.2 ⟨?_, ih ?_⟩
    · rw [← field_cons_div w r rs, h, field_cons_div]
    · rw [← field_cons_mod w r rs, h, field_cons_mod]

/-- Words with equal slices agree under the slices' masks joined. -/
theorem and_pathMask_eq {rs : List BitRange} (hword : ∀ r ∈ rs, ¬ outsideWord r)
    (h : ∀ r ∈ rs, slice w r = slice v r) : w &&& pathMask rs = v &&& pathMask rs := by
  induction rs with
  | nil => exact BitVec.and_zero.trans BitVec.and_zero.symm
  | cons r rs ih =>
    obtain ⟨hr, hword⟩ := List.forall_mem_cons.1 hword
    obtain ⟨hslice, h⟩ := List.forall_mem_cons.1 h
    rw [pathMask, BitVec.and_or_distrib_left, BitVec.and_or_distrib_left, ih hword h, and_rangeMask hr,
      and_rangeMask hr, hslice]

/-- The ranges of the word that a leaf's operands take. -/
def operandRanges (l : Leaf) : List BitRange := l.operands.flatMap (·.ranges)

/-- In every row of the opcode table the mask and the operands' ranges cover the word (R79, R81). -/
theorem opcodeRows_cover : ∀ r ∈ opcodeRows, (∀ q ∈ operandRanges r.leaf, ¬ outsideWord q) ∧
    r.mask ||| pathMask (operandRanges r.leaf) = BitVec.allOnes 32 := by
  decide

/-- No two rows of the opcode table have the same leaf. -/
theorem opcodeRows_leaf_nodup : (opcodeRows.map (·.leaf)).Nodup := by
  decide

/-- Words that agree under a row's mask and in its leaf's fields are equal. -/
theorem eq_of_row {r : FlatRow} (hr : r ∈ opcodeRows) (hmask : w &&& r.mask = v &&& r.mask)
    (hfields : ∀ sp ∈ r.leaf.operands, field w sp.ranges = field v sp.ranges) : w = v := by
  obtain ⟨hword, hcover⟩ := opcodeRows_cover r hr
  have hslices : ∀ q ∈ operandRanges r.leaf, slice w q = slice v q := by
    intro q hq
    obtain ⟨sp, hsp, hmem⟩ := List.mem_flatMap.1 hq
    exact slice_eq_of_field_eq (hfields sp hsp) q hmem
  calc w = w &&& (r.mask ||| pathMask (operandRanges r.leaf)) := by rw [hcover, BitVec.and_allOnes]
    _ = v &&& (r.mask ||| pathMask (operandRanges r.leaf)) := by
      rw [BitVec.and_or_distrib_left, BitVec.and_or_distrib_left, hmask, and_pathMask_eq hword hslices]
    _ = v := by rw [hcover, BitVec.and_allOnes]

/-- Two words from which the same instruction is read have the same operand fields: the reading at an identifier takes
just the fields that its leaf's operands name. -/
theorem field_eq_of_readInstr {n : Nat} {i : Instr} (hw : readInstr n w = some i) (hv : readInstr n v = some i) :
    ∀ sp ∈ (leafOf i).operands, field v sp.ranges = field w sp.ranges := by
  unfold readInstr at hw
  split at hw <;> simp only [Option.some.injEq, reduceCtorEq] at hw <;> subst hw <;>
    simp [readInstr, ← BitVec.toNat_inj, rdAt_toNat, rs1At_toNat, rs2At_toNat, shamtAt_toNat, immIAt_toNat,
      immSAt_toNat, immBAt_toNat, immUAt_toNat, immJAt_toNat, leafOf, leafLui, leafAuipc, leafJal, leafJalr,
      leafBeq, leafBne, leafBlt, leafBge, leafBltu, leafBgeu, leafLb, leafLh, leafLw, leafLbu, leafLhu, leafSb,
      leafSh, leafSw, leafAddi, leafSlti, leafSltiu, leafXori, leafOri, leafAndi, leafSlli, leafSrli, leafSrai,
      leafAdd, leafSub, leafSll, leafSlt, leafSltu, leafXor, leafSrl, leafSra, leafOr, leafAnd, leafEcall,
      leafEbreak, leafFlw, leafFld, leafFsw, leafFsd, leafFsgnjS, leafFsgnjD, leafFmvXW, leafFmvWX] at hv ⊢ <;>
    exact hv

/-- Settles O39: the word and the encoded word are in the same row and have the same fields. -/
theorem encodeInvertsDecode : Obligations.EncodeInvertsDecode := by
  intro w i hdecode
  obtain ⟨l, hwalk, hinstr⟩ := (decodeWord_eq_ok_iff w i).1 hdecode
  obtain ⟨hread, rfl⟩ := (instrOf_eq_some_iff l w i).1 hinstr
  obtain ⟨r, hr, hleaf, hmatch⟩ := (walk_eq_some_iff_row tableOk_ref_refRoom).1 hwalk
  obtain ⟨q, hq, hqleaf, hqmatch⟩ := encodingMatchesRow i
  have hrow : r ∈ opcodeRows := flatRows_ref_perm.mem_iff.1 hr
  obtain rfl : r = q := List.inj_on_of_nodup_map opcodeRows_leaf_nodup hrow hq (hleaf.trans hqleaf.symm)
  refine eq_of_row hrow (hqmatch.trans hmatch.symm) ?_
  rw [hleaf]
  exact field_eq_of_readInstr hread (readInstr_encode i)

end Decode

end Sys2Proof.RoundTrip
end

section
/-! PROOF. What REF does not recognise (spec/30_encoding.md R80, R82). A branch leaves a word unmatched exactly when the
selected child, where there is one, does; read down the tree of REF, this is a condition on the selectors' values, which
R82 lists opcode field by opcode field. -/

namespace Sys2Proof.ReservedWords

open Sys2Proof.Machine Sys2Proof.Laws Sys2Proof.InstructionBuilder Sys2Proof.Trees Sys2Proof.CallOutcomes

variable {w : Word}

/-- A branch leaves a word unmatched exactly when the child listed at the selector's value does, if one is listed
(R73, R110). -/
theorem walk_branch_eq_none_iff {sel : BitRange} {rows : List (Nat × Node)} (hnodup : (rows.map (·.1)).Nodup) :
    walk w (.branch sel (childrenOf rows)) = none ↔ ∀ c ∈ rows, c.1 = slice w sel → walk w c.2 = none := by
  have hlisted : ((childPairs (childrenOf rows)).map (·.1)).Nodup := (childPairs_childrenOf rows).symm ▸ hnodup
  simp only [Option.eq_none_iff_forall_ne_some, ne_eq, walk_branch_eq_some_iff hlisted, childPairs_childrenOf,
    not_exists, not_and]
  exact ⟨fun h c hc hvalue l => h l c hc hvalue, fun h l c hc hvalue => h c hc hvalue l⟩

/-- A leaf leaves no word unmatched. -/
theorem walk_leaf_eq_none_iff (l : Leaf) : walk w (.leaf l) = none ↔ False := by
  simp [walk]

/-- A selector has a value exactly when Lean's own slice is that bit vector. -/
theorem eq_slice_iff {k : Nat} {r : BitRange} (hk : k < 2 ^ rangeWidth r) :
    k = slice w r ↔ w.extractLsb' r.lo (rangeWidth r) = BitVec.ofNat (rangeWidth r) k := by
  rw [slice_eq_extractLsb, ← BitVec.toNat_inj, BitVec.toNat_ofNat, Nat.mod_eq_of_lt hk, eq_comm]

/-- The eight values of funct3. -/
theorem funct3_cases (f3 : BitVec 3) :
    f3 = 0#3 ∨ f3 = 1#3 ∨ f3 = 2#3 ∨ f3 = 3#3 ∨ f3 = 4#3 ∨ f3 = 5#3 ∨ f3 = 6#3 ∨ f3 = 7#3 := by
  decide +revert

/-- The words that REF leaves unmatched are those of the reserved list (R80, R82). -/
theorem walk_ref_eq_none_iff (w : Word) : walk w ref = none ↔ reservedInRef w := by
  have hop (k : Nat) (hk : k < 128) : k = slice w ⟨6, 0⟩ ↔ w.extractLsb' 0 7 = BitVec.ofNat _ k :=
    eq_slice_iff (r := ⟨6, 0⟩) hk
  have hf3 (k : Nat) (hk : k < 8) : k = slice w ⟨14, 12⟩ ↔ w.extractLsb' 12 3 = BitVec.ofNat _ k :=
    eq_slice_iff (r := ⟨14, 12⟩) hk
  have hf7 (k : Nat) (hk : k < 128) : k = slice w ⟨31, 25⟩ ↔ w.extractLsb' 25 7 = BitVec.ofNat _ k :=
    eq_slice_iff (r := ⟨31, 25⟩) hk
  have hrs2 (k : Nat) (hk : k < 32) : k = slice w ⟨24, 20⟩ ↔ w.extractLsb' 20 5 = BitVec.ofNat _ k :=
    eq_slice_iff (r := ⟨24, 20⟩) hk
  have hupper (k : Nat) (hk : k < 2 ^ 25) : k = slice w ⟨31, 7⟩ ↔ w.extractLsb' 7 25 = BitVec.ofNat _ k :=
    eq_slice_iff (r := ⟨31, 7⟩) hk
  simp (disch := decide) only [ref, onOpcode, onFunct3, onFunct7, onRs2, onUpper, walk_branch_eq_none_iff,
    List.forall_mem_cons, hop, hf3, hf7, hrs2, hupper, walk_leaf_eq_none_iff, imp_false, List.not_mem_nil,
    false_implies, implies_true, and_true, reservedInRef]
  have hfunct3 := funct3_cases (w.extractLsb' 12 3)
  by_cases hlisted : w.extractLsb' 0 7 ∈
      [0x03#7, 0x07#7, 0x13#7, 0x17#7, 0x23#7, 0x27#7, 0x33#7, 0x37#7, 0x53#7, 0x63#7, 0x67#7, 0x6F#7, 0x73#7]
  · simp only [List.mem_cons, List.not_mem_nil, or_false] at hlisted
    rcases hlisted with h | h | h | h | h | h | h | h | h | h | h | h | h <;> simp [h]
    all_goals rcases hfunct3 with hf | hf | hf | hf | hf | hf | hf | hf <;> simp [hf]
    -- What is left is opcode field 0x53 with funct3 = 0, where funct7 and, below 0x70 and 0x78, `W[24:20]` decide.
    grind
  · simp only [hlisted, not_false_iff, true_or, iff_true]
    simp only [List.mem_cons, List.not_mem_nil, or_false, not_or] at hlisted
    simp only [hlisted, false_implies, not_false_iff, and_self]

/-- Settles O29: the walk of REF is none on the listed words, and then the call ends with UnrecognizedEncoding. -/
theorem reservedWordsAreUnrecognized : Obligations.ReservedWordsAreUnrecognized := by
  refine ⟨walk_ref_eq_none_iff, fun s w ⟨hc, href⟩ hw hreserved => ?_⟩
  exact unmatchedWordIsUnrecognizedEncoding s w hc hw (href ▸ (walk_ref_eq_none_iff w).2 hreserved)

end Sys2Proof.ReservedWords
end

section
/-! PROOF. The meanings of the 47 instructions (spec/45_reference_table_integer.md, spec/46_reference_table_float.md). A
meaning is a delivery of resolved raw fields; a field of an instruction always resolves, to the operand that its bits
name, so each meaning delivers its record in every state. -/

namespace Sys2Proof.Meanings

open Sys2Proof.Machine Sys2Proof.Laws Sys2Proof.InstructionBuilder

section Resolvers

variable {m : Nat}

theorem resolveUimm_toNat (x : BitVec m) : resolveUimm x.toNat = some (unsignedImm x) := by
  rw [resolveUimm, BitVec.ofNat_toNat]

/-- A signed immediate whose field has all `N` bits (R141). -/
theorem resolveSimm_toNat (hm : 1 ≤ m) (x : BitVec m) : resolveSimm m x.toNat = some (signedImm x) := by
  rw [resolveSimm, sext_eq_signExtend m _ hm, BitVec.ofNat_toNat, BitVec.setWidth_eq]

/-- A shifted immediate whose field has all but one of `N` bits (R142). -/
theorem resolveSimmLsl1_toNat (x : BitVec m) : resolveSimmLsl1 (m + 1) x.toNat = some (evenImm x) := by
  have hdouble : 2 * x.toNat = (x ++ 0#1).toNat := by
    rw [toNat_append_eq, BitVec.toNat_zero]
    omega
  rw [resolveSimmLsl1, sext_eq_signExtend (m + 1) _ (Nat.le_add_left 1 m), hdouble, BitVec.ofNat_toNat,
    BitVec.setWidth_eq]

end Resolvers

section Deliveries

variable (opcode : Nat) (s : State)

/-- The builder delivers operands that have all resolved (R150). -/
theorem deliver_resolved (ops : List Operand) :
    deliver opcode (ops.map some) s = .next { s with result := some (delivered opcode ops s.addr) } := by
  rw [deliver_eq, (builtResult_eq_delivered_iff opcode _ ops s.addr).2 rfl]

theorem deliver_two {r₁ r₂ : Option Operand} {o₁ o₂ : Operand} (h₁ : r₁ = some o₁) (h₂ : r₂ = some o₂) :
    deliver opcode [r₁, r₂] s = .next { s with result := some (delivered opcode [o₁, o₂] s.addr) } := by
  rw [h₁, h₂]
  exact deliver_resolved opcode s [o₁, o₂]

theorem deliver_three {r₁ r₂ r₃ : Option Operand} {o₁ o₂ o₃ : Operand} (h₁ : r₁ = some o₁) (h₂ : r₂ = some o₂)
    (h₃ : r₃ = some o₃) :
    deliver opcode [r₁, r₂, r₃] s = .next { s with result := some (delivered opcode [o₁, o₂, o₃] s.addr) } := by
  rw [h₁, h₂, h₃]
  exact deliver_resolved opcode s [o₁, o₂, o₃]

/-- Format U: a register and an unsigned immediate. -/
theorem deliver_immU (rd : RegIx) (imm : BitVec 20) :
    deliver opcode [resolveGpr s.regtab rd.toNat, resolveUimm imm.toNat] s =
      .next { s with result := some (delivered opcode [gprOf s.regtab rd, unsignedImm imm] s.addr) } :=
  deliver_two opcode s (resolveGpr_regIx _ _) (resolveUimm_toNat imm)

/-- Format B: two registers and an offset with an implicit low bit. -/
theorem deliver_immB (rs1 rs2 : RegIx) (raw : BitVec 12) :
    deliver opcode [resolveGpr s.regtab rs1.toNat, resolveGpr s.regtab rs2.toNat, resolveSimmLsl1 13 raw.toNat] s =
      .next { s with result := some (delivered opcode
        [gprOf s.regtab rs1, gprOf s.regtab rs2, evenImm raw] s.addr) } :=
  deliver_three opcode s (resolveGpr_regIx _ _) (resolveGpr_regIx _ _) (resolveSimmLsl1_toNat raw)

/-- Formats I and S: two registers and a signed immediate. -/
theorem deliver_imm12 (r1 r2 : RegIx) (imm : BitVec 12) :
    deliver opcode [resolveGpr s.regtab r1.toNat, resolveGpr s.regtab r2.toNat, resolveSimm 12 imm.toNat] s =
      .next { s with result := some (delivered opcode
        [gprOf s.regtab r1, gprOf s.regtab r2, signedImm imm] s.addr) } :=
  deliver_three opcode s (resolveGpr_regIx _ _) (resolveGpr_regIx _ _) (resolveSimm_toNat (by decide) imm)

/-- Format ISH: two registers and a shift amount. -/
theorem deliver_shamt (rd rs1 : RegIx) (shamt : BitVec 5) :
    deliver opcode [resolveGpr s.regtab rd.toNat, resolveGpr s.regtab rs1.toNat, resolveUimm shamt.toNat] s =
      .next { s with result := some (delivered opcode
        [gprOf s.regtab rd, gprOf s.regtab rs1, unsignedImm shamt] s.addr) } :=
  deliver_three opcode s (resolveGpr_regIx _ _) (resolveGpr_regIx _ _) (resolveUimm_toNat shamt)

/-- Format R: three registers. -/
theorem deliver_regs (rd rs1 rs2 : RegIx) :
    deliver opcode [resolveGpr s.regtab rd.toNat, resolveGpr s.regtab rs1.toNat, resolveGpr s.regtab rs2.toNat] s =
      .next { s with result := some (delivered opcode
        [gprOf s.regtab rd, gprOf s.regtab rs1, gprOf s.regtab rs2] s.addr) } :=
  deliver_three opcode s (resolveGpr_regIx _ _) (resolveGpr_regIx _ _) (resolveGpr_regIx _ _)

end Deliveries

/-- Settles O51: LUI and AUIPC deliver as format U; JAL and JALR have a register and an offset. -/
theorem upperJumpMeaningsComplete : Obligations.UpperJumpMeaningsComplete :=
  ⟨fun rd imm s => ⟨deliver_immU 1 s rd imm, deliver_immU 2 s rd imm⟩,
    fun _ raw s => deliver_two 3 s (resolveGpr_regIx _ _) (resolveSimmLsl1_toNat raw),
    fun rd rs1 imm s => deliver_imm12 4 s rd rs1 imm⟩

/-- Settles O52: the six branches deliver as format B. -/
theorem branchMeaningsComplete : Obligations.BranchMeaningsComplete := fun rs1 rs2 raw s =>
  ⟨deliver_immB 5 s rs1 rs2 raw, deliver_immB 6 s rs1 rs2 raw, deliver_immB 7 s rs1 rs2 raw,
    deliver_immB 8 s rs1 rs2 raw, deliver_immB 9 s rs1 rs2 raw, deliver_immB 10 s rs1 rs2 raw⟩

/-- Settles O53: the five loads deliver as format I. -/
theorem loadMeaningsComplete : Obligations.LoadMeaningsComplete := fun rd rs1 imm s =>
  ⟨deliver_imm12 11 s rd rs1 imm, deliver_imm12 12 s rd rs1 imm, deliver_imm12 13 s rd rs1 imm,
    deliver_imm12 14 s rd rs1 imm, deliver_imm12 15 s rd rs1 imm⟩

/-- Settles O54: the three stores deliver as format S, the data register first. -/
theorem storeMeaningsComplete : Obligations.StoreMeaningsComplete := fun rs2 rs1 imm s =>
  ⟨deliver_imm12 16 s rs2 rs1 imm, deliver_imm12 17 s rs2 rs1 imm, deliver_imm12 18 s rs2 rs1 imm⟩

/-- Settles O55: the six register-immediate instructions deliver as format I. -/
theorem regImmMeaningsComplete : Obligations.RegImmMeaningsComplete := fun rd rs1 imm s =>
  ⟨deliver_imm12 19 s rd rs1 imm, deliver_imm12 20 s rd rs1 imm, deliver_imm12 21 s rd rs1 imm,
    deliver_imm12 22 s rd rs1 imm, deliver_imm12 23 s rd rs1 imm, deliver_imm12 24 s rd rs1 imm⟩

/-- Settles O56: the three shift-immediate instructions deliver as format ISH. -/
theorem shiftImmMeaningsComplete : Obligations.ShiftImmMeaningsComplete := fun rd rs1 shamt s =>
  ⟨deliver_shamt 25 s rd rs1 shamt, deliver_shamt 26 s rd rs1 shamt, deliver_shamt 27 s rd rs1 shamt⟩

/-- Settles O57: the ten register-register instructions deliver as format R. -/
theorem regRegMeaningsComplete : Obligations.RegRegMeaningsComplete := fun rd rs1 rs2 s =>
  ⟨deliver_regs 28 s rd rs1 rs2, deliver_regs 29 s rd rs1 rs2, deliver_regs 30 s rd rs1 rs2,
    deliver_regs 31 s rd rs1 rs2, deliver_regs 32 s rd rs1 rs2, deliver_regs 33 s rd rs1 rs2,
    deliver_regs 34 s rd rs1 rs2, deliver_regs 35 s rd rs1 rs2, deliver_regs 36 s rd rs1 rs2,
    deliver_regs 37 s rd rs1 rs2⟩

/-- Settles O58: ECALL and EBREAK deliver no operands. -/
theorem systemMeaningsComplete : Obligations.SystemMeaningsComplete := fun s =>
  ⟨deliver_resolved 38 s [], deliver_resolved 39 s []⟩

/-- Settles O59: the float loads and stores have the transferred register in FPR32 or FPR64, the base in GPR. -/
theorem floatMemMeaningsComplete : Obligations.FloatMemMeaningsComplete := by
  refine ⟨fun rd rs1 imm s => ?loads, fun rs2 rs1 imm s => ?stores⟩ <;>
    have hbase := resolveGpr_regIx s.regtab rs1 <;>
    have himm := resolveSimm_toNat (by decide) imm
  case loads =>
    exact ⟨deliver_three 40 s (resolveFpr32_regIx _ rd) hbase himm,
      deliver_three 41 s (resolveFpr64_regIx _ rd) hbase himm⟩
  case stores =>
    exact ⟨deliver_three 42 s (resolveFpr32_regIx _ rs2) hbase himm,
      deliver_three 43 s (resolveFpr64_regIx _ rs2) hbase himm⟩

/-- Settles O60: the sign injections stay within one float class, the moves cross between GPR and FPR32. -/
theorem floatRegMeaningsComplete : Obligations.FloatRegMeaningsComplete :=
  ⟨fun _ _ _ s =>
    ⟨deliver_three 44 s (resolveFpr32_regIx _ _) (resolveFpr32_regIx _ _) (resolveFpr32_regIx _ _),
      deliver_three 45 s (resolveFpr64_regIx _ _) (resolveFpr64_regIx _ _) (resolveFpr64_regIx _ _)⟩,
    fun _ _ s =>
    ⟨deliver_two 46 s (resolveGpr_regIx _ _) (resolveFpr32_regIx _ _),
      deliver_two 47 s (resolveFpr32_regIx _ _) (resolveGpr_regIx _ _)⟩⟩

end Sys2Proof.Meanings
end
